-- ==== Sys2Proof/Word.lean ====
section
/-!
DEFINITION. The words that cross the serial ports (spec/10_serial_ports_and_requests.md, R185, R195): a byte, a
16-bit payload word (two bytes, high byte first), and the two-word quantity.
-/

namespace Sys2Proof

/-- A byte of a frame (R185). -/
abbrev Byte := BitVec 8

/-- A payload word: two bytes, high byte first (R185). -/
abbrev Word := BitVec 16

/-- A two-word quantity: 32 bits, high word first (R195). -/
abbrev DWord := BitVec 32

/-- The high byte of a payload word. -/
def Word.hi (w : Word) : Byte := w.extractLsb' 8 8

/-- The low byte of a payload word. -/
def Word.lo (w : Word) : Byte := w.extractLsb' 0 8

/-- The word of two bytes, high byte first. -/
def Word.ofBytes (h l : Byte) : Word := h ++ l

/-- The two-word quantity of two words, high word first. -/
def DWord.ofWords (h l : Word) : DWord := h ++ l

/-- The high word of a two-word quantity. -/
def DWord.hi (d : DWord) : Word := d.extractLsb' 16 16

/-- The low word of a two-word quantity. -/
def DWord.lo (d : DWord) : Word := d.extractLsb' 0 16

end Sys2Proof
end

