-- ==== Sys2Proof/Syntax.lean ====
section
/-!
DEFINITION. The commands of the JLB740: one constructor of `Instr` per row of spec/opcode_table.json, with the row's
operands. The table gives no row a bit field; the operands are those the row's rule names (INVENTORY.md, Instructions).
-/

namespace Sys2Proof

/-- A serial port: P for the playback controller, D for the deck controller (R185). -/
inductive Port where
  | portP
  | portD
deriving DecidableEq, Repr

/-- What follows the CODE byte of a request frame (R185): the LEN byte and the payload words that the master shifted
in. A frame whose LEN byte is above 130 ends at that byte (R186) and has no words. -/
structure Frame where
  len : Byte
  words : List Word
deriving DecidableEq, Repr

/-- The nine analog inputs of a servo sample event, as they stand at the converters; a value beyond a converter's span
is brought to its end code by the DFE stage (R2). -/
structure SampleInputs where
  a : Int
  b : Int
  c : Int
  d : Int
  e : Int
  f : Int
  rfe : Int
  ax : Int
  az : Int
deriving DecidableEq, Repr

/-- The commands: the rows of spec/opcode_table.json, in the table's order. -/
inductive Instr where
  /-- SERVO_SAMPLE_EVENT (R1). -/
  | servoSampleEvent (x : SampleInputs)
  /-- SEARCH_FAILED (R34): the servo sample event in which the focus search fails. -/
  | searchFailed (x : SampleInputs)
  /-- DEFECT_FORCED_END (R46): the servo sample event in which a defect hold is ended at DEF_MAX. -/
  | defectForcedEnd (x : SampleInputs)
  /-- HALL_EDGE (R61); the operand is the time the edge timer has run since it was last brought up to date, in
  microseconds. -/
  | hallEdge (elapsedUs : Nat)
  /-- CLOSE_TIMEOUT (R36). -/
  | closeTimeout
  /-- SPIN_TIMEOUT (R70). -/
  | spinTimeout
  /-- SPINDLE_STOPPED (R74). -/
  | spindleStopped
  /-- SLED_STUCK (R78). -/
  | sledStuck
  /-- NUDGE_END (R81). -/
  | nudgeEnd
  /-- JUMP_TIMEOUT (R108). -/
  | jumpTimeout
  /-- HOLDING_JUMP_TIMEOUT (R117). -/
  | holdingJumpTimeout
  /-- SEEK_TIMEOUT (R109). -/
  | seekTimeout
  /-- ADDRESS_WAIT_EXPIRY (R124). -/
  | addressWaitExpiry
  /-- REVOLUTION_GAP_TIMEOUT (R126). -/
  | revolutionGapTimeout
  /-- SHOCK_TIME_COUNTDOWN (R50). -/
  | shockTimeCountdown
  /-- ELAPSED_TIME_TICK (R103). -/
  | elapsedTimeTick
  /-- HOME_SWITCH_CHANGE (R76); the operand is the switch's new level. -/
  | homeSwitchChange (active : Bool)
  /-- LOWV_ASSERTION (R167). -/
  | lowvAssertion
  /-- LOWV_RELEASE (R168). -/
  | lowvRelease
  /-- RSTN_ASSERTED (R193). -/
  | rstnAsserted
  /-- RSTN_RELEASED (R193). -/
  | rstnReleased
  /-- POWER_ON (R193). -/
  | powerOn
  /-- SUBMIT (R137). -/
  | submit (p : Port) (f : Frame)
  /-- FLUSH (R149). -/
  | flush (p : Port) (f : Frame)
  /-- RESET_PORT (R192). -/
  | resetPort (p : Port) (f : Frame)
  /-- GET_STATE (R191). -/
  | getState (p : Port) (f : Frame)
  /-- GET_POSITION (R101). -/
  | getPosition (p : Port) (f : Frame)
  /-- GET_RESULTS (R175). -/
  | getResults (p : Port) (f : Frame)
  /-- GET_NOTICES (R179). -/
  | getNotices (p : Port) (f : Frame)
  /-- SET_NOTICE_MASK (R178). -/
  | setNoticeMask (p : Port) (f : Frame)
  /-- GET_COUNTERS (R181). -/
  | getCounters (p : Port) (f : Frame)
  /-- GET_FAULT (R166). -/
  | getFault (p : Port) (f : Frame)
  /-- CLEAR_FAULT (R166). -/
  | clearFault (p : Port) (f : Frame)
  /-- GET_PARAM (R191). -/
  | getParam (p : Port) (f : Frame)
  /-- SET_PARAM (R191). -/
  | setParam (p : Port) (f : Frame)
  /-- SET_PORT_MODE (R174). -/
  | setPortMode (p : Port) (f : Frame)
  /-- ADDRESS_REPORT (R95). -/
  | addressReport (p : Port) (f : Frame)
  /-- MARK (R152). -/
  | mark (p : Port) (f : Frame)
  /-- UNMARK (R153). -/
  | unmark (p : Port) (f : Frame)
  /-- ZONE_SET (R91). -/
  | zoneSet (p : Port) (f : Frame)
  /-- GET_ZONES (R93). -/
  | getZones (p : Port) (f : Frame)
  /-- DECK_REPORT (R158). -/
  | deckReport (p : Port) (f : Frame)
  /-- SET_POLICY (R146). -/
  | setPolicy (p : Port) (f : Frame)
  /-- CLOSE_PHASE_RETRY (R107): the close timeout for which a close phase waits. -/
  | closePhaseRetry
  /-- MILLISECOND_TICK (R74): every running timer that does not expire at the tick. -/
  | millisecondTick
  /-- SELECT_CHANGE (R186); the operand is the select line's new level. -/
  | selectChange (p : Port) (asserted : Bool)
  /-- UNKNOWN_CODE_REQUEST (R189). -/
  | unknownCodeRequest (p : Port) (code : Byte) (f : Frame)
deriving DecidableEq, Repr

end Sys2Proof
end

