-- ==== Sys2Proof/Decode.lean ====
section
/-!
DEFINITION. Decoding. The opcode table gives no row a bit, so `decodeTableWord` spells no command. The request frames of
the two ports have bytes of their own (R185, R190): `decodeFrame` reads the command that a port's bytes carry, and
`encodeFrame` writes the bytes of a request.
-/

namespace Sys2Proof

/-- The command that an opcode-table word spells: none, since the table gives no row a bit field. -/
def decodeTableWord (_nbits _w : Nat) : Option Instr := none

/-- The codes that name a request (R190). -/
def knownCode (c : Byte) : Bool :=
  [0x20, 0x21, 0x2F, 0x30, 0x31, 0x32, 0x33, 0x34, 0x35, 0x36, 0x37, 0x38, 0x39, 0x3A, 0x40, 0x41, 0x42, 0x43, 0x44,
    0x50, 0x51].contains c.toNat

/-- The command of a CODE at a port, by the catalogue of R190. -/
def requestOf (c : Byte) (p : Port) (f : Frame) : Instr :=
  match c.toNat with
  | 0x20 => .submit p f
  | 0x21 => .flush p f
  | 0x2F => .resetPort p f
  | 0x30 => .getState p f
  | 0x31 => .getPosition p f
  | 0x32 => .getResults p f
  | 0x33 => .getNotices p f
  | 0x34 => .setNoticeMask p f
  | 0x35 => .getCounters p f
  | 0x36 => .getFault p f
  | 0x37 => .clearFault p f
  | 0x38 => .getParam p f
  | 0x39 => .setParam p f
  | 0x3A => .setPortMode p f
  | 0x40 => .addressReport p f
  | 0x41 => .mark p f
  | 0x42 => .unmark p f
  | 0x43 => .zoneSet p f
  | 0x44 => .getZones p f
  | 0x50 => .deckReport p f
  | 0x51 => .setPolicy p f
  | _ => .unknownCodeRequest p c f

/-- The port, the CODE byte and the frame of a request; none for a command that is no request (R190). -/
def frameOf : Instr → Option (Port × Byte × Frame)
  | .submit p f => some (p, 0x20, f)
  | .flush p f => some (p, 0x21, f)
  | .resetPort p f => some (p, 0x2F, f)
  | .getState p f => some (p, 0x30, f)
  | .getPosition p f => some (p, 0x31, f)
  | .getResults p f => some (p, 0x32, f)
  | .getNotices p f => some (p, 0x33, f)
  | .setNoticeMask p f => some (p, 0x34, f)
  | .getCounters p f => some (p, 0x35, f)
  | .getFault p f => some (p, 0x36, f)
  | .clearFault p f => some (p, 0x37, f)
  | .getParam p f => some (p, 0x38, f)
  | .setParam p f => some (p, 0x39, f)
  | .setPortMode p f => some (p, 0x3A, f)
  | .addressReport p f => some (p, 0x40, f)
  | .mark p f => some (p, 0x41, f)
  | .unmark p f => some (p, 0x42, f)
  | .zoneSet p f => some (p, 0x43, f)
  | .getZones p f => some (p, 0x44, f)
  | .deckReport p f => some (p, 0x50, f)
  | .setPolicy p f => some (p, 0x51, f)
  | .unknownCodeRequest p c f => some (p, c, f)
  | .servoSampleEvent _ => none
  | .searchFailed _ => none
  | .defectForcedEnd _ => none
  | .hallEdge _ => none
  | .closeTimeout => none
  | .spinTimeout => none
  | .spindleStopped => none
  | .sledStuck => none
  | .nudgeEnd => none
  | .jumpTimeout => none
  | .holdingJumpTimeout => none
  | .seekTimeout => none
  | .addressWaitExpiry => none
  | .revolutionGapTimeout => none
  | .shockTimeCountdown => none
  | .elapsedTimeTick => none
  | .homeSwitchChange _ => none
  | .lowvAssertion => none
  | .lowvRelease => none
  | .rstnAsserted => none
  | .rstnReleased => none
  | .powerOn => none
  | .closePhaseRetry => none
  | .millisecondTick => none
  | .selectChange _ _ => none

/-- The bytes of the payload words, high byte first (R185). -/
def bytesOfWords (ws : List Word) : List Byte := ws.flatMap (fun w => [Word.hi w, Word.lo w])

/-- The payload words of bytes, high byte first; a last single byte is no word (R185). -/
def wordsOfBytes : List Byte → List Word
  | h :: l :: rest => Word.ofBytes h l :: wordsOfBytes rest
  | _ => []

/-- The bytes of a request frame: CODE, LEN and the payload words (R185); none for a command that is no request. -/
def encodeFrame (i : Instr) : Option (Port × List Byte) :=
  (frameOf i).map (fun x => (x.1, x.2.1 :: x.2.2.len :: bytesOfWords x.2.2.words))

/-- The command that the bytes of one select carry on a port (R185, R186): none before the LEN byte. A LEN byte above
130 ends the frame; otherwise the frame holds at most LEN words, and the bytes that follow them are disregarded. -/
def decodeFrame (p : Port) (bs : List Byte) : Option Instr :=
  match bs with
  | c :: len :: rest =>
    some (requestOf c p
      { len := len, words := if 130 < len.toNat then [] else (wordsOfBytes rest).take len.toNat })
  | _ => none

end Sys2Proof
end

