-- ==== Sys2Proof/Config.lean ====
section
/-!
DEFINITION. What the JLB740 fixes once for every part: capacities, limits and lengths that the rules name and that no
request can write. The spec leaves no result undefined, so there is no free value here (INVENTORY.md, What the manual
leaves open).
-/

namespace Sys2Proof.Config

/-- Entries a port's queue holds at most (R135). -/
def queueDepth : Nat := 4

/-- Tickets run 0..7 (R136). -/
def ticketCount : Nat := 8

/-- Continuations in one chain run at most (R144, R145). -/
def chainLimit : Nat := 4

/-- The highest block number (00_scope.md 4, R94). -/
def maxBlock : Nat := 449999

/-- The lowest track index (R84). -/
def minTrack : Int := -2048

/-- The highest track index (R84). -/
def maxTrack : Int := 21999

/-- The highest LEN byte of a frame (R185, R186). -/
def maxLen : Nat := 130

/-- Milliseconds without a Hall edge after which a disc has stopped (R74). -/
def silenceLimit : Nat := 200

/-- Hall edges in one revolution (R62). -/
def edgesPerRevolution : Nat := 6

/-- In-window edges that lock the spindle (R68). -/
def lockEdges : Nat := 12

/-- Out-of-window edges that lose the lock (R69). -/
def unlockEdges : Nat := 6

/-- The duty accumulator at the entry to LOCKING: 255 times 256 (R66). -/
def captureDuty : Nat := 65280

/-- The upper end of the 16-bit saturating quantities (edge timer, DA, elapsed time, following count, overload run). -/
def max16 : Nat := 65535

/-- Tracks of the jump that ends a coarse phase (R109). -/
def coarseJump : Nat := 64

/-- Fixed part of a jump's timeout, in milliseconds (R39, R108). -/
def jumpBaseMs : Nat := 5

/-- The revolution gap at which a BALANCE measurement has failed, in milliseconds (R126). -/
def gapLimitMs : Nat := 1000

/-- The shortest address wait, in milliseconds (R122). -/
def minAddressWait : Nat := 20

/-- The upper end of the balance sums (R126). -/
def maxBalanceSum : Nat := 4294967295

/-- The disagreements in a row that drop the anchor (R97). -/
def disagreements : Nat := 3

/-- The counter difference that raises COUNTER_HALF (R182). -/
def halfView : Nat := 32768

/-- The integrator's lower and upper ends (R26). -/
def minIntegrator : Int := -8388608
def maxIntegrator : Int := 8388607

end Sys2Proof.Config
end

