-- ==== Sys2Proof/Machine/Params.lean ====
section
/-!
DEFINITION. The parameters of the JLB740: the table of R194 (spec/10_serial_ports_and_requests.md, 10.6), with each
parameter's identifier, range and default, and the one reader and the one writer that every other file uses.
-/

namespace Sys2Proof.Machine

/-- The names of the parameter table (R194). -/
inductive ParamId where
  | ofsA
  | ofsB
  | ofsC
  | ofsD
  | ofsE
  | ofsF
  | sumFloor
  | sideFloor
  | fofs
  | tofs
  | tbal
  | xingLevel
  | fkpN
  | fkiN
  | fkdN
  | fkpB
  | fkiB
  | fkdB
  | tkpN
  | tkiN
  | tkdN
  | tkpB
  | tkiB
  | tkdB
  | ksF
  | ksT
  | sumPullin
  | searchStep
  | searchSpan
  | focusTries
  | closeLevel
  | closeTo
  | kick
  | defLevel
  | defOn
  | defOff
  | defMax
  | shockLevel
  | shockHold
  | slipBurst
  | flostN
  | overloadN
  | sf
  | kclv
  | ksi
  | lockWin
  | spinTo
  | brakeEnd
  | sledSeek
  | sledPark
  | followLevel
  | followDuty
  | followMs
  | sledHomeTo
  | homeTrack
  | anchorTol
  | trackTries
  | seekTo
  | addrWait
  | seekWin
  | seekCorr
  | balRevs
deriving DecidableEq, Repr

/-- Parameters of the Detector Front End (chapter 1), R194. -/
structure DfeParams where
  /-- OFS_A, 0..511. -/
  ofsA : Nat
  /-- OFS_B, 0..511. -/
  ofsB : Nat
  /-- OFS_C, 0..511. -/
  ofsC : Nat
  /-- OFS_D, 0..511. -/
  ofsD : Nat
  /-- OFS_E, 0..511. -/
  ofsE : Nat
  /-- OFS_F, 0..511. -/
  ofsF : Nat
  /-- SUM_FLOOR, 0..16383. -/
  sumFloor : Nat
  /-- SIDE_FLOOR, 0..8191. -/
  sideFloor : Nat
  /-- FOFS, -512..511. -/
  fofs : Int
  /-- TOFS, -512..511. -/
  tofs : Int
  /-- TBAL, 128..383. -/
  tbal : Nat
  /-- XING_LEVEL, 64..2047. -/
  xingLevel : Nat
deriving DecidableEq, Repr

/-- Parameters of the loop gains and feed coefficients (chapter 2), R194. -/
structure GainParams where
  /-- FKP_N, 0..1023. -/
  fkpN : Nat
  /-- FKI_N, 0..255. -/
  fkiN : Nat
  /-- FKD_N, 0..1023. -/
  fkdN : Nat
  /-- FKP_B, 0..1023. -/
  fkpB : Nat
  /-- FKI_B, 0..255. -/
  fkiB : Nat
  /-- FKD_B, 0..1023. -/
  fkdB : Nat
  /-- TKP_N, 0..1023. -/
  tkpN : Nat
  /-- TKI_N, 0..255. -/
  tkiN : Nat
  /-- TKD_N, 0..1023. -/
  tkdN : Nat
  /-- TKP_B, 0..1023. -/
  tkpB : Nat
  /-- TKI_B, 0..255. -/
  tkiB : Nat
  /-- TKD_B, 0..1023. -/
  tkdB : Nat
  /-- KS_F, -64..63. -/
  ksF : Int
  /-- KS_T, -64..63. -/
  ksT : Int
deriving DecidableEq, Repr

/-- Parameters of focus search, close and jump (chapter 2), R194. -/
structure LoopParams where
  /-- SUM_PULLIN, 0..16383. -/
  sumPullin : Nat
  /-- SEARCH_STEP, 1..64. -/
  searchStep : Nat
  /-- SEARCH_SPAN, 256..2047. -/
  searchSpan : Nat
  /-- FOCUS_TRIES, 1..7. -/
  focusTries : Nat
  /-- CLOSE_LEVEL, 16..2047. -/
  closeLevel : Nat
  /-- CLOSE_TO, 10..500. -/
  closeTo : Nat
  /-- KICK, 100..2047. -/
  kick : Nat
deriving DecidableEq, Repr

/-- Parameters of the Disturbance Monitor (chapter 3), R194. -/
structure DmnParams where
  /-- DEF_LEVEL, 0..4095. -/
  defLevel : Nat
  /-- DEF_ON, 1..63. -/
  defOn : Nat
  /-- DEF_OFF, 1..63. -/
  defOff : Nat
  /-- DEF_MAX, 64..4095. -/
  defMax : Nat
  /-- SHOCK_LEVEL, 16..511. -/
  shockLevel : Nat
  /-- SHOCK_HOLD, 10..2000. -/
  shockHold : Nat
  /-- SLIP_BURST, 2..15. -/
  slipBurst : Nat
  /-- FLOST_N, 1..255. -/
  flostN : Nat
  /-- OVERLOAD_N, 1000..65535. -/
  overloadN : Nat
deriving DecidableEq, Repr

/-- Parameters of the Spindle Controller (chapter 4), R194. -/
structure SpcParams where
  /-- SF, 1..4. -/
  sf : Nat
  /-- KCLV, 512..1023. -/
  kclv : Nat
  /-- KSI, 0..255. -/
  ksi : Nat
  /-- LOCK_WIN, 1..64. -/
  lockWin : Nat
  /-- SPIN_TO, 500..10000. -/
  spinTo : Nat
  /-- BRAKE_END, 20000..65535. -/
  brakeEnd : Nat
deriving DecidableEq, Repr

/-- Parameters of the Sled Controller (chapter 4), R194. -/
structure SlcParams where
  /-- SLED_SEEK, 0..255. -/
  sledSeek : Nat
  /-- SLED_PARK, 0..255. -/
  sledPark : Nat
  /-- FOLLOW_LEVEL, 50..2047. -/
  followLevel : Nat
  /-- FOLLOW_DUTY, 0..255. -/
  followDuty : Nat
  /-- FOLLOW_MS, 5..200. -/
  followMs : Nat
  /-- SLED_HOME_TO, 200..5000. -/
  sledHomeTo : Nat
  /-- HOME_TRACK, -2048..-1. -/
  homeTrack : Int
deriving DecidableEq, Repr

/-- Parameters of the Position Record Unit and the Move Engine (chapters 5 and 6), R194. -/
structure MoveParams where
  /-- ANCHOR_TOL, 1..64. -/
  anchorTol : Nat
  /-- TRACK_TRIES, 1..7. -/
  trackTries : Nat
  /-- SEEK_TO, 200..5000. -/
  seekTo : Nat
  /-- ADDR_WAIT, 0..1000. -/
  addrWait : Nat
  /-- SEEK_WIN, 1..1000. -/
  seekWin : Nat
  /-- SEEK_CORR, 0..7. -/
  seekCorr : Nat
  /-- BAL_REVS, 1..8. -/
  balRevs : Nat
deriving DecidableEq, Repr

/-- The parameters, one field each. The signed parameters are FOFS, TOFS, KS_F, KS_T and HOME_TRACK (R194). -/
structure Params extends DfeParams, GainParams, LoopParams, DmnParams, SpcParams, SlcParams, MoveParams
deriving DecidableEq, Repr

/-- The defaults of R194. -/
def Params.defaults : Params :=
  { ofsA := 0,
    ofsB := 0,
    ofsC := 0,
    ofsD := 0,
    ofsE := 0,
    ofsF := 0,
    sumFloor := 1200,
    sideFloor := 400,
    fofs := 0,
    tofs := 0,
    tbal := 256,
    xingLevel := 1024,
    fkpN := 320,
    fkiN := 12,
    fkdN := 640,
    fkpB := 480,
    fkiB := 20,
    fkdB := 800,
    tkpN := 256,
    tkiN := 10,
    tkdN := 512,
    tkpB := 400,
    tkiB := 16,
    tkdB := 700,
    ksF := 0,
    ksT := 0,
    sumPullin := 2400,
    searchStep := 4,
    searchSpan := 1536,
    focusTries := 3,
    closeLevel := 256,
    closeTo := 50,
    kick := 900,
    defLevel := 900,
    defOn := 4,
    defOff := 8,
    defMax := 1024,
    shockLevel := 160,
    shockHold := 300,
    slipBurst := 4,
    flostN := 32,
    overloadN := 44100,
    sf := 1,
    kclv := 825,
    ksi := 24,
    lockWin := 8,
    spinTo := 4000,
    brakeEnd := 50000,
    sledSeek := 160,
    sledPark := 120,
    followLevel := 300,
    followDuty := 90,
    followMs := 20,
    sledHomeTo := 2000,
    homeTrack := -1000,
    anchorTol := 3,
    trackTries := 3,
    seekTo := 1500,
    addrWait := 120,
    seekWin := 150,
    seekCorr := 3,
    balRevs := 2 }

/-- The identifiers that GET_PARAM and SET_PARAM carry (R194). -/
def ParamId.code : ParamId → Nat
  | .ofsA => 0x01
  | .ofsB => 0x02
  | .ofsC => 0x03
  | .ofsD => 0x04
  | .ofsE => 0x05
  | .ofsF => 0x06
  | .sumFloor => 0x07
  | .sideFloor => 0x08
  | .fofs => 0x09
  | .tofs => 0x0A
  | .tbal => 0x0B
  | .xingLevel => 0x0C
  | .fkpN => 0x10
  | .fkiN => 0x11
  | .fkdN => 0x12
  | .fkpB => 0x13
  | .fkiB => 0x14
  | .fkdB => 0x15
  | .tkpN => 0x16
  | .tkiN => 0x17
  | .tkdN => 0x18
  | .tkpB => 0x19
  | .tkiB => 0x1A
  | .tkdB => 0x1B
  | .ksF => 0x1C
  | .ksT => 0x1D
  | .sumPullin => 0x1E
  | .searchStep => 0x1F
  | .searchSpan => 0x20
  | .focusTries => 0x21
  | .closeLevel => 0x22
  | .closeTo => 0x23
  | .kick => 0x24
  | .defLevel => 0x28
  | .defOn => 0x29
  | .defOff => 0x2A
  | .defMax => 0x2B
  | .shockLevel => 0x2C
  | .shockHold => 0x2D
  | .slipBurst => 0x2E
  | .flostN => 0x2F
  | .overloadN => 0x30
  | .sf => 0x38
  | .kclv => 0x39
  | .ksi => 0x3A
  | .lockWin => 0x3B
  | .spinTo => 0x3C
  | .brakeEnd => 0x3D
  | .sledSeek => 0x40
  | .sledPark => 0x41
  | .followLevel => 0x42
  | .followDuty => 0x43
  | .followMs => 0x44
  | .sledHomeTo => 0x45
  | .homeTrack => 0x46
  | .anchorTol => 0x48
  | .trackTries => 0x50
  | .seekTo => 0x51
  | .addrWait => 0x52
  | .seekWin => 0x53
  | .seekCorr => 0x54
  | .balRevs => 0x55

/-- The parameter an identifier names, if any (R191). -/
def ParamId.ofCode : Nat → Option ParamId
  | 0x01 => some .ofsA
  | 0x02 => some .ofsB
  | 0x03 => some .ofsC
  | 0x04 => some .ofsD
  | 0x05 => some .ofsE
  | 0x06 => some .ofsF
  | 0x07 => some .sumFloor
  | 0x08 => some .sideFloor
  | 0x09 => some .fofs
  | 0x0A => some .tofs
  | 0x0B => some .tbal
  | 0x0C => some .xingLevel
  | 0x10 => some .fkpN
  | 0x11 => some .fkiN
  | 0x12 => some .fkdN
  | 0x13 => some .fkpB
  | 0x14 => some .fkiB
  | 0x15 => some .fkdB
  | 0x16 => some .tkpN
  | 0x17 => some .tkiN
  | 0x18 => some .tkdN
  | 0x19 => some .tkpB
  | 0x1A => some .tkiB
  | 0x1B => some .tkdB
  | 0x1C => some .ksF
  | 0x1D => some .ksT
  | 0x1E => some .sumPullin
  | 0x1F => some .searchStep
  | 0x20 => some .searchSpan
  | 0x21 => some .focusTries
  | 0x22 => some .closeLevel
  | 0x23 => some .closeTo
  | 0x24 => some .kick
  | 0x28 => some .defLevel
  | 0x29 => some .defOn
  | 0x2A => some .defOff
  | 0x2B => some .defMax
  | 0x2C => some .shockLevel
  | 0x2D => some .shockHold
  | 0x2E => some .slipBurst
  | 0x2F => some .flostN
  | 0x30 => some .overloadN
  | 0x38 => some .sf
  | 0x39 => some .kclv
  | 0x3A => some .ksi
  | 0x3B => some .lockWin
  | 0x3C => some .spinTo
  | 0x3D => some .brakeEnd
  | 0x40 => some .sledSeek
  | 0x41 => some .sledPark
  | 0x42 => some .followLevel
  | 0x43 => some .followDuty
  | 0x44 => some .followMs
  | 0x45 => some .sledHomeTo
  | 0x46 => some .homeTrack
  | 0x48 => some .anchorTol
  | 0x50 => some .trackTries
  | 0x51 => some .seekTo
  | 0x52 => some .addrWait
  | 0x53 => some .seekWin
  | 0x54 => some .seekCorr
  | 0x55 => some .balRevs
  | _ => none

/-- The lower end of a parameter's range (R194). -/
def ParamId.lo : ParamId → Int
  | .ofsA => 0
  | .ofsB => 0
  | .ofsC => 0
  | .ofsD => 0
  | .ofsE => 0
  | .ofsF => 0
  | .sumFloor => 0
  | .sideFloor => 0
  | .fofs => -512
  | .tofs => -512
  | .tbal => 128
  | .xingLevel => 64
  | .fkpN => 0
  | .fkiN => 0
  | .fkdN => 0
  | .fkpB => 0
  | .fkiB => 0
  | .fkdB => 0
  | .tkpN => 0
  | .tkiN => 0
  | .tkdN => 0
  | .tkpB => 0
  | .tkiB => 0
  | .tkdB => 0
  | .ksF => -64
  | .ksT => -64
  | .sumPullin => 0
  | .searchStep => 1
  | .searchSpan => 256
  | .focusTries => 1
  | .closeLevel => 16
  | .closeTo => 10
  | .kick => 100
  | .defLevel => 0
  | .defOn => 1
  | .defOff => 1
  | .defMax => 64
  | .shockLevel => 16
  | .shockHold => 10
  | .slipBurst => 2
  | .flostN => 1
  | .overloadN => 1000
  | .sf => 1
  | .kclv => 512
  | .ksi => 0
  | .lockWin => 1
  | .spinTo => 500
  | .brakeEnd => 20000
  | .sledSeek => 0
  | .sledPark => 0
  | .followLevel => 50
  | .followDuty => 0
  | .followMs => 5
  | .sledHomeTo => 200
  | .homeTrack => -2048
  | .anchorTol => 1
  | .trackTries => 1
  | .seekTo => 200
  | .addrWait => 0
  | .seekWin => 1
  | .seekCorr => 0
  | .balRevs => 1

/-- The upper end of a parameter's range (R194). -/
def ParamId.hi : ParamId → Int
  | .ofsA => 511
  | .ofsB => 511
  | .ofsC => 511
  | .ofsD => 511
  | .ofsE => 511
  | .ofsF => 511
  | .sumFloor => 16383
  | .sideFloor => 8191
  | .fofs => 511
  | .tofs => 511
  | .tbal => 383
  | .xingLevel => 2047
  | .fkpN => 1023
  | .fkiN => 255
  | .fkdN => 1023
  | .fkpB => 1023
  | .fkiB => 255
  | .fkdB => 1023
  | .tkpN => 1023
  | .tkiN => 255
  | .tkdN => 1023
  | .tkpB => 1023
  | .tkiB => 255
  | .tkdB => 1023
  | .ksF => 63
  | .ksT => 63
  | .sumPullin => 16383
  | .searchStep => 64
  | .searchSpan => 2047
  | .focusTries => 7
  | .closeLevel => 2047
  | .closeTo => 500
  | .kick => 2047
  | .defLevel => 4095
  | .defOn => 63
  | .defOff => 63
  | .defMax => 4095
  | .shockLevel => 511
  | .shockHold => 2000
  | .slipBurst => 15
  | .flostN => 255
  | .overloadN => 65535
  | .sf => 4
  | .kclv => 1023
  | .ksi => 255
  | .lockWin => 64
  | .spinTo => 10000
  | .brakeEnd => 65535
  | .sledSeek => 255
  | .sledPark => 255
  | .followLevel => 2047
  | .followDuty => 255
  | .followMs => 200
  | .sledHomeTo => 5000
  | .homeTrack => -1
  | .anchorTol => 64
  | .trackTries => 7
  | .seekTo => 5000
  | .addrWait => 1000
  | .seekWin => 1000
  | .seekCorr => 7
  | .balRevs => 8

/-- Whether a parameter's range is signed, so that its word is read as two's complement (R191, R194). -/
def ParamId.signed (q : ParamId) : Bool := q.lo < 0

/-- The value of a parameter. -/
def Params.get (m : Params) : ParamId → Int
  | .ofsA => m.ofsA
  | .ofsB => m.ofsB
  | .ofsC => m.ofsC
  | .ofsD => m.ofsD
  | .ofsE => m.ofsE
  | .ofsF => m.ofsF
  | .sumFloor => m.sumFloor
  | .sideFloor => m.sideFloor
  | .fofs => m.fofs
  | .tofs => m.tofs
  | .tbal => m.tbal
  | .xingLevel => m.xingLevel
  | .fkpN => m.fkpN
  | .fkiN => m.fkiN
  | .fkdN => m.fkdN
  | .fkpB => m.fkpB
  | .fkiB => m.fkiB
  | .fkdB => m.fkdB
  | .tkpN => m.tkpN
  | .tkiN => m.tkiN
  | .tkdN => m.tkdN
  | .tkpB => m.tkpB
  | .tkiB => m.tkiB
  | .tkdB => m.tkdB
  | .ksF => m.ksF
  | .ksT => m.ksT
  | .sumPullin => m.sumPullin
  | .searchStep => m.searchStep
  | .searchSpan => m.searchSpan
  | .focusTries => m.focusTries
  | .closeLevel => m.closeLevel
  | .closeTo => m.closeTo
  | .kick => m.kick
  | .defLevel => m.defLevel
  | .defOn => m.defOn
  | .defOff => m.defOff
  | .defMax => m.defMax
  | .shockLevel => m.shockLevel
  | .shockHold => m.shockHold
  | .slipBurst => m.slipBurst
  | .flostN => m.flostN
  | .overloadN => m.overloadN
  | .sf => m.sf
  | .kclv => m.kclv
  | .ksi => m.ksi
  | .lockWin => m.lockWin
  | .spinTo => m.spinTo
  | .brakeEnd => m.brakeEnd
  | .sledSeek => m.sledSeek
  | .sledPark => m.sledPark
  | .followLevel => m.followLevel
  | .followDuty => m.followDuty
  | .followMs => m.followMs
  | .sledHomeTo => m.sledHomeTo
  | .homeTrack => m.homeTrack
  | .anchorTol => m.anchorTol
  | .trackTries => m.trackTries
  | .seekTo => m.seekTo
  | .addrWait => m.addrWait
  | .seekWin => m.seekWin
  | .seekCorr => m.seekCorr
  | .balRevs => m.balRevs

/-- The parameters with one of them written; a value below 0 does not arise for an unsigned parameter, since the port
clamps first (R191). -/
def Params.set (m : Params) (q : ParamId) (v : Int) : Params :=
  match q with
  | .ofsA => { m with ofsA := v.toNat }
  | .ofsB => { m with ofsB := v.toNat }
  | .ofsC => { m with ofsC := v.toNat }
  | .ofsD => { m with ofsD := v.toNat }
  | .ofsE => { m with ofsE := v.toNat }
  | .ofsF => { m with ofsF := v.toNat }
  | .sumFloor => { m with sumFloor := v.toNat }
  | .sideFloor => { m with sideFloor := v.toNat }
  | .fofs => { m with fofs := v }
  | .tofs => { m with tofs := v }
  | .tbal => { m with tbal := v.toNat }
  | .xingLevel => { m with xingLevel := v.toNat }
  | .fkpN => { m with fkpN := v.toNat }
  | .fkiN => { m with fkiN := v.toNat }
  | .fkdN => { m with fkdN := v.toNat }
  | .fkpB => { m with fkpB := v.toNat }
  | .fkiB => { m with fkiB := v.toNat }
  | .fkdB => { m with fkdB := v.toNat }
  | .tkpN => { m with tkpN := v.toNat }
  | .tkiN => { m with tkiN := v.toNat }
  | .tkdN => { m with tkdN := v.toNat }
  | .tkpB => { m with tkpB := v.toNat }
  | .tkiB => { m with tkiB := v.toNat }
  | .tkdB => { m with tkdB := v.toNat }
  | .ksF => { m with ksF := v }
  | .ksT => { m with ksT := v }
  | .sumPullin => { m with sumPullin := v.toNat }
  | .searchStep => { m with searchStep := v.toNat }
  | .searchSpan => { m with searchSpan := v.toNat }
  | .focusTries => { m with focusTries := v.toNat }
  | .closeLevel => { m with closeLevel := v.toNat }
  | .closeTo => { m with closeTo := v.toNat }
  | .kick => { m with kick := v.toNat }
  | .defLevel => { m with defLevel := v.toNat }
  | .defOn => { m with defOn := v.toNat }
  | .defOff => { m with defOff := v.toNat }
  | .defMax => { m with defMax := v.toNat }
  | .shockLevel => { m with shockLevel := v.toNat }
  | .shockHold => { m with shockHold := v.toNat }
  | .slipBurst => { m with slipBurst := v.toNat }
  | .flostN => { m with flostN := v.toNat }
  | .overloadN => { m with overloadN := v.toNat }
  | .sf => { m with sf := v.toNat }
  | .kclv => { m with kclv := v.toNat }
  | .ksi => { m with ksi := v.toNat }
  | .lockWin => { m with lockWin := v.toNat }
  | .spinTo => { m with spinTo := v.toNat }
  | .brakeEnd => { m with brakeEnd := v.toNat }
  | .sledSeek => { m with sledSeek := v.toNat }
  | .sledPark => { m with sledPark := v.toNat }
  | .followLevel => { m with followLevel := v.toNat }
  | .followDuty => { m with followDuty := v.toNat }
  | .followMs => { m with followMs := v.toNat }
  | .sledHomeTo => { m with sledHomeTo := v.toNat }
  | .homeTrack => { m with homeTrack := v }
  | .anchorTol => { m with anchorTol := v.toNat }
  | .trackTries => { m with trackTries := v.toNat }
  | .seekTo => { m with seekTo := v.toNat }
  | .addrWait => { m with addrWait := v.toNat }
  | .seekWin => { m with seekWin := v.toNat }
  | .seekCorr => { m with seekCorr := v.toNat }
  | .balRevs => { m with balRevs := v.toNat }

/-- Every parameter lies in the range of R194, and SF is 1, 2 or 4. -/
def Params.InRange (m : Params) : Prop :=
  (∀ q, q.lo ≤ m.get q ∧ m.get q ≤ q.hi) ∧ (m.sf = 1 ∨ m.sf = 2 ∨ m.sf = 4)

end Sys2Proof.Machine
end

