-- ==== Sys2Proof/Machine/Arith.lean ====
section
/-!
DEFINITION. The arithmetic the rules share: the clamp and the two roundings of 00_scope.md 5.4 and 5.5, and the signed
words of R195.
-/

namespace Sys2Proof.Machine

/-- A clamp to lo..hi (00_scope.md 5.5). -/
def clampI (lo hi x : Int) : Int := if x < lo then lo else if hi < x then hi else x

/-- A clamp of a natural number from above: a saturating count (00_scope.md 5.5). -/
def satN (hi n : Nat) : Nat := min n hi

/-- Round half away from zero of x / d: sign(x) times floor((2 |x| + d) / (2 d)) (00_scope.md 5.4). -/
def roundAway (x : Int) (d : Nat) : Int := x.sign * (((2 * x.natAbs + d) / (2 * d) : Nat) : Int)

/-- Round half up of x / d: floor((x + floor(d / 2)) / d) (00_scope.md 5.4). -/
def roundUp (x d : Nat) : Nat := (x + d / 2) / d

/-- A word that carries a signed or an unsigned quantity, two's complement (R195). -/
def wordOf (x : Int) : Word := BitVec.ofInt 16 x

/-- The two words of a two-word quantity, high word first (R195). -/
def wordsOf (x : Int) : List Word := [DWord.hi (BitVec.ofInt 32 x), DWord.lo (BitVec.ofInt 32 x)]

/-- A word of a high byte and a low byte (R195). -/
def bytesWord (hi lo : Nat) : Word := Word.ofBytes (BitVec.ofNat 8 hi) (BitVec.ofNat 8 lo)

/-- A flag as a number, 1 for set (R195). -/
def flagNat (b : Bool) : Nat := if b then 1 else 0

/-- A flag as a word (R195). -/
def flagWord (b : Bool) : Word := if b then 1 else 0

/-- The CLV target period T for a track index, a speed factor and a CLV scale, in the three steps of R63. -/
def targetPeriod (n : Int) (sf kclv : Nat) : Nat :=
  let nc := (clampI 0 20999 n).toNat
  let rUm := 25000 + nc * 16 / 10
  (rUm * kclv + 512 * sf) / (1024 * sf)

end Sys2Proof.Machine
end

