-- ==== Sys2Proof/Machine/State.lean ====
section
/-!
DEFINITION. The state of the JLB740 as plain data: every piece of state the spec gives each of its eleven blocks, the
input levels, and the queue of commands that wait. INVENTORY.md, State, lists them with the rules that name them.
-/

namespace Sys2Proof.Machine

/-- The fault reasons of the interface. NO CONSTRUCTOR: no rule of the spec stops the machine; a mechanism fault is a
fault record in State (R164), and a refused request is a response status (R188). -/
inductive Fault where
deriving DecidableEq, Repr

/-- The refusals of the interface. -/
inductive Refusal where
  /-- Raised by no arm of exec: every command of the table has its meaning. It would be safe (the machine stops). -/
  | notModelled (mnemonic : String)
deriving DecidableEq, Repr

/-! ### Enumerations (R195 gives their codes; Machine/Operands.lean) -/

/-- Armed side of the crossing detector (R14). -/
inductive ArmedSide where
  | none | high | low
deriving DecidableEq, Repr

/-- A direction across the disc (00_scope.md 5.6). -/
inductive Dir where
  | outward | inward
deriving DecidableEq, Repr

/-- States of the focus loop (R18). -/
inductive FocusState where
  | opened | search | closed | held
deriving DecidableEq, Repr

/-- States of the tracking loop (R19). -/
inductive TrackState where
  | opened | closing | closed | held | jumping
deriving DecidableEq, Repr

/-- Gain set in use (R31). -/
inductive GainSet where
  | normal | boost
deriving DecidableEq, Repr

/-- Direction of the search ramp (R32). -/
inductive Ramp where
  | rising | falling
deriving DecidableEq, Repr

/-- Kick phase of a jump (R37). -/
inductive KickPhase where
  | none | kick | brake
deriving DecidableEq, Repr

/-- States of the defect detector (R43 to R47). -/
inductive DefectState where
  | watching | holding | blocked
deriving DecidableEq, Repr

/-- States of the spindle (chapter 4, 4.4). -/
inductive SpindleState where
  | stopped | accel | locking | locked | braking | rundown | coast
deriving DecidableEq, Repr

/-- Direction of the spindle drive (R64). -/
inductive SpinDir where
  | fwd | rev
deriving DecidableEq, Repr

/-- States of the sled (chapter 4, 4.5). -/
inductive SledState where
  | unknown | homing | atHome | trackingFollow | seekDrive | idle
deriving DecidableEq, Repr

/-- The ten kinds of move (chapter 7). -/
inductive MoveKind where
  | start | stop | park | play | hold | jump | seekTrack | seekBlock | resumeMark | balance
deriving DecidableEq, Repr

/-- The outcomes of a move (R106). -/
inductive MoveOutcome where
  | done | notReady | badTarget | missed | noAddress | timeout | markLost | abortedUrgent | abortedFlush
  | focusLost | trackLost | powerDip | discReleased | fault
deriving DecidableEq, Repr

/-- The phases of the Move Engine (6.1). -/
inductive Phase where
  | none | homing | search | spinUp | close | coarse | jump | addressWait | revWait | measure | spinDown
deriving DecidableEq, Repr

/-- The holding jump (R117). -/
inductive HoldJump where
  | none | jumping | closing
deriving DecidableEq, Repr

/-- The recovery activity (R133). -/
inductive Activity where
  | none | search | close
deriving DecidableEq, Repr

/-- The source of the active move (R147). -/
inductive Source where
  | none | queueP | queueD | urgent
deriving DecidableEq, Repr

/-- The chain claim (R145). -/
inductive Claim where
  | none | queueP | queueD
deriving DecidableEq, Repr

/-- The Arbiter's policy (R146). -/
inductive Policy where
  | playFirst | deckFirst | deckStrong
deriving DecidableEq, Repr

/-- The drive states (R157). -/
inductive DriveState where
  | noDisc | idle | starting | tracking | holding | moving | recovering | stopping | faulted | powerHold
deriving DecidableEq, Repr

/-- The clamp states (R158). -/
inductive Clamp where
  | clamped | unclamped | loading
deriving DecidableEq, Repr

/-- The recovery kind (R162). -/
inductive Recovery where
  | none | focus | tracking
deriving DecidableEq, Repr

/-- The fault kinds (R164). -/
inductive FaultKind where
  | focusFail | trackFail | spinFail | sledStuck | unclampSpinning | driveOverload
deriving DecidableEq, Repr

/-- The result-store modes (R174). -/
inductive StoreMode where
  | holdOff | overwrite
deriving DecidableEq, Repr

/-- The twelve notices (R176). -/
inductive Notice where
  | result | qspace | focusLost | slip | shock | defectLong | spin | driveState | markLost | fault | counterHalf | deck
deriving DecidableEq, Repr

/-- The twelve counters (R180). -/
inductive CounterId where
  | focusLost | slip | slipBursts | defect | longDefect | shock | seekCorrection | seekMiss | anchorReject
  | anchorDrop | spinUnlock | preempt
deriving DecidableEq, Repr

/-- The statuses of a response (R188). -/
inductive Status where
  | ok | clamped | accepted | queueFull | slotBusy | notThisPort | unknown | badLength | badValue | notReady
deriving DecidableEq, Repr

/-! ### Small records -/

/-- A millisecond timer: its count, and whether it runs. -/
structure Timer where
  count : Nat
  running : Bool
deriving DecidableEq, Repr

/-- A PWM generator (R64): the signed duty commanded at the start of the present period, and the signed duty the
present period applies. -/
structure Pwm where
  last : Int
  out : Int
deriving DecidableEq, Repr

/-- An entry of a queue or of the urgent slot (chapter 7): the argument is present for JUMP, SEEK_TRACK and
SEEK_BLOCK. -/
structure Entry where
  ticket : Nat
  kind : MoveKind
  arg : Option Int
  chain : Bool
deriving DecidableEq, Repr

/-- The active move (6.1). -/
structure ActiveMove where
  port : Port
  ticket : Nat
  kind : MoveKind
  arg : Option Int
  urgent : Bool
  chain : Bool
deriving DecidableEq, Repr

/-- The position mark while it is valid (R152). -/
structure Mark where
  block : Nat
  track : Int
deriving DecidableEq, Repr

/-- The two blocks that are present while the record is anchored (5.1). -/
structure Anchor where
  block : Nat
  estimated : Nat
deriving DecidableEq, Repr

/-- An entry of the Zone Table (R88). -/
structure ZoneEntry where
  firstBlock : Nat
  firstTrack : Nat
  bpt256 : Nat
deriving DecidableEq, Repr

/-- The Zone Table (R88). -/
structure ZoneTable where
  entries : List ZoneEntry
  endBlock : Nat
deriving DecidableEq, Repr

/-- A result record (R132). -/
structure Result where
  port : Port
  ticket : Nat
  kind : MoveKind
  urgent : Bool
  chained : Bool
  outcome : MoveOutcome
  trackIndex : Int
  anchorBlock : Option Nat
  corrections : Nat
  elapsed : Nat
  last : Bool
  measured : Option Nat
deriving DecidableEq, Repr

/-- The active move as a fault record keeps it (R164). -/
structure FaultMove where
  port : Port
  ticket : Nat
  kind : MoveKind
deriving DecidableEq, Repr

/-- The fault record while it is latched (R164). -/
structure FaultRecord where
  kind : FaultKind
  drive : DriveState
  active : Option FaultMove
  trackIndex : Int
  period : Nat
deriving DecidableEq, Repr

/-- A response: its status and its payload words (R185, R188). -/
structure Response where
  status : Status
  payload : List Word
deriving DecidableEq, Repr

/-- Where a port's transaction stands (R185, R186, R193). -/
inductive PortPhase where
  /-- The select line is released. -/
  | released
  /-- The select line was asserted at the release of reset; it is disregarded until it is released (R193). -/
  | disregarded
  /-- Select was asserted and the request frame has not begun. -/
  | awaiting
  /-- A part of a request frame has come in, and not its last byte. -/
  | partialFrame
  /-- The request was taken in this select; the part sends the fillers and the response, of whose bytes `sent` have been
  shifted out, and the bytes that come in are disregarded. -/
  | responding (sent : Nat)
deriving DecidableEq, Repr

/-- One value per counter: the Counter Bank, and a port's baselines (R180, R181). -/
structure CounterBank where
  focusLost : BitVec 32
  slip : BitVec 32
  slipBursts : BitVec 32
  defect : BitVec 32
  longDefect : BitVec 32
  shock : BitVec 32
  seekCorrection : BitVec 32
  seekMiss : BitVec 32
  anchorReject : BitVec 32
  anchorDrop : BitVec 32
  spinUnlock : BitVec 32
  preempt : BitVec 32
deriving DecidableEq, Repr

/-! ### The blocks -/

/-- Detector Front End (chapter 1). -/
structure Dfe where
  a : Nat
  b : Nat
  c : Nat
  d : Nat
  e : Nat
  f : Nat
  rfe : Nat
  ax : Int
  az : Int
  sum : Nat
  fe : Int
  te : Int
  eDash : Nat
  fDash : Nat
  armed : ArmedSide
deriving DecidableEq, Repr

/-- The focus loop of the Loop Processor (chapter 2). -/
structure FocusLoop where
  state : FocusState
  drive : Int
  integ : Int
  ePrev : Int
  gains : GainSet
  resume : Bool
  ramp : Ramp
  sweeps : Nat
  prevFe : Option Int
deriving DecidableEq, Repr

/-- The tracking loop of the Loop Processor (chapter 2). -/
structure TrackLoop where
  state : TrackState
  drive : Int
  integ : Int
  ePrev : Int
  gains : GainSet
  resume : Bool
  kick : KickPhase
  jumpDir : Dir
  closeTimer : Nat
deriving DecidableEq, Repr

/-- Disturbance Monitor (chapter 3). -/
structure Dmn where
  defect : DefectState
  lowRun : Nat
  goodRun : Nat
  holdLength : Nat
  window : Bool
  remaining : Nat
  slips : Nat
  lossRun : Nat
  overloadRun : Nat
deriving DecidableEq, Repr

/-- Spindle Controller (chapter 4); the drive permit is the one home of SPC's and DSV's permit. -/
structure Spc where
  state : SpindleState
  edgeTimer : Nat
  tm : Nat
  target : Nat
  da : Nat
  duty : Nat
  dir : SpinDir
  inRun : Nat
  outRun : Nat
  edges : Nat
  silence : Nat
  spinTimer : Timer
  permit : Bool
  pwm : Pwm
deriving DecidableEq, Repr

/-- Sled Controller (chapter 4); the homed flag is the one home of SLC's flag and PRU's mirror of it (R87). -/
structure Slc where
  state : SledState
  duty : Int
  homed : Bool
  homingTimer : Timer
  followSum : Int
  followCount : Nat
  nudgeTimer : Timer
  nudgeLength : Nat
  pwm : Pwm
deriving DecidableEq, Repr

/-- Position Record Unit (chapter 5). -/
structure Pru where
  trackIndex : Int
  anchor : Option Anchor
  revs : Nat
  run : Nat
  zones : ZoneTable
deriving DecidableEq, Repr

/-- Move Engine (chapter 6). `coarseGoal` is the count |d| - 64 that ends a coarse phase (R109), and `measured` the
value of R127 between the end of the measurement and the completion. -/
structure Mve where
  active : Option ActiveMove
  returnState : Option DriveState
  phase : Phase
  crossings : Nat
  coarseGoal : Nat
  jumpSize : Nat
  jumpDir : Dir
  jumpTimer : Timer
  seekTimer : Timer
  closeTries : Nat
  timedOut : Bool
  target : Nat
  aim : Nat
  corrections : Nat
  waitTimer : Timer
  waitLimit : Nat
  sumE : Nat
  sumF : Nat
  revsMeasured : Nat
  gapTimer : Timer
  measured : Option Nat
  elapsed : Nat
  holdJump : HoldJump
  holdTimer : Timer
  holdTries : Nat
  settling : Bool
  settleTries : Nat
  activity : Activity
deriving DecidableEq, Repr

/-- Pickup Arbiter (chapter 7). -/
structure Arb where
  queueP : List Entry
  queueD : List Entry
  urgent : Option Entry
  urgentWaiting : Bool
  source : Source
  claim : Claim
  run : Nat
  policy : Policy
  mark : Option Mark
deriving DecidableEq, Repr

/-- Drive Supervisor (chapter 8). -/
structure Dsv where
  drive : DriveState
  clamp : Clamp
  laser : Bool
  lowv : Bool
  recovery : Recovery
  record : Option FaultRecord
  lost : Bool
deriving DecidableEq, Repr

/-- A Port Interface (chapter 9). `response` is the response formed at the port's last taking (R186); after a transaction
that ended normally it stays as what was sent (notes/assumptions/7.md). -/
structure Pif where
  phase : PortPhase
  response : Option Response
  older : Option Result
  newer : Option Result
  mode : StoreMode
  dropped : Nat
  flags : BitVec 12
  mask : BitVec 12
  baselines : CounterBank
  ticket : Nat
deriving DecidableEq, Repr

/-- The JLB740, and the queue of the commands that wait. -/
structure State where
  /-- The RSTN line is low: the part is held in reset (R193). -/
  rstnLow : Bool
  /-- The level at the LOWV pin; true is asserted (R196). -/
  lowvPin : Bool
  /-- The HOME switch is active (R76, R196). -/
  homePin : Bool
  prm : Params
  dfe : Dfe
  focus : FocusLoop
  track : TrackLoop
  dmn : Dmn
  spc : Spc
  slc : Slc
  pru : Pru
  mve : Mve
  arb : Arb
  dsv : Dsv
  pifP : Pif
  pifD : Pif
  ctb : CounterBank
  /-- The commands that wait, first in first out. -/
  pending : List Instr
deriving DecidableEq, Repr

/-! ### After reset -/

/-- A timer at 0, stopped. -/
def Timer.stopped : Timer := { count := 0, running := false }

/-- Twelve zeros (R180, R181, R184). -/
def CounterBank.zero : CounterBank :=
  { focusLost := 0, slip := 0, slipBursts := 0, defect := 0, longDefect := 0, shock := 0, seekCorrection := 0,
    seekMiss := 0, anchorReject := 0, anchorDrop := 0, spinUnlock := 0, preempt := 0 }

/-- R17. -/
def Dfe.reset : Dfe :=
  { a := 0, b := 0, c := 0, d := 0, e := 0, f := 0, rfe := 0, ax := 0, az := 0, sum := 0, fe := 0, te := 0,
    eDash := 0, fDash := 0, armed := .none }

/-- R41. -/
def FocusLoop.reset : FocusLoop :=
  { state := .opened, drive := 0, integ := 0, ePrev := 0, gains := .normal, resume := false, ramp := .rising,
    sweeps := 0, prevFe := none }

/-- R41. -/
def TrackLoop.reset : TrackLoop :=
  { state := .opened, drive := 0, integ := 0, ePrev := 0, gains := .normal, resume := false, kick := .none,
    jumpDir := .outward, closeTimer := 0 }

/-- R59. -/
def Dmn.reset : Dmn :=
  { defect := .watching, lowRun := 0, goodRun := 0, holdLength := 0, window := false, remaining := 0, slips := 0,
    lossRun := 0, overloadRun := 0 }

/-- R75; the target period is that of track 0 at the default SF and KCLV. -/
def Spc.reset : Spc :=
  { state := .rundown, edgeTimer := 65535, tm := 65535, target := 20142, da := 0, duty := 0, dir := .fwd,
    inRun := 0, outRun := 0, edges := 0, silence := 0, spinTimer := .stopped, permit := false,
    pwm := { last := 0, out := 0 } }

/-- R82. -/
def Slc.reset : Slc :=
  { state := .unknown, duty := 0, homed := false, homingTimer := .stopped, followSum := 0, followCount := 0,
    nudgeTimer := .stopped, nudgeLength := 0, pwm := { last := 0, out := 0 } }

/-- The Zone Table after reset (R88). -/
def ZoneTable.default : ZoneTable :=
  { entries := [{ firstBlock := 0, firstTrack := 0, bpt256 := 2304 }], endBlock := 449999 }

/-- R102. -/
def Pru.reset : Pru :=
  { trackIndex := 0, anchor := none, revs := 0, run := 0, zones := .default }

/-- R134 and the table of 6.1; the fields without a value there, among them the close tries of the holding jump and of the
settling close, are the model's (DESIGN CHOICE, notes/assumptions/17.md). -/
def Mve.reset : Mve :=
  { active := none, returnState := none, phase := .none, crossings := 0, coarseGoal := 0, jumpSize := 1,
    jumpDir := .outward, jumpTimer := .stopped, seekTimer := .stopped, closeTries := 0, timedOut := false,
    target := 0, aim := 0, corrections := 0, waitTimer := .stopped, waitLimit := 20, sumE := 0, sumF := 0,
    revsMeasured := 0, gapTimer := .stopped, measured := none, elapsed := 0, holdJump := .none,
    holdTimer := .stopped, holdTries := 0, settling := false, settleTries := 0, activity := .none }

/-- R156. -/
def Arb.reset : Arb :=
  { queueP := [], queueD := [], urgent := none, urgentWaiting := false, source := .none, claim := .none, run := 0,
    policy := .playFirst, mark := none }

/-- R170. -/
def Dsv.reset : Dsv :=
  { drive := .noDisc, clamp := .unclamped, laser := false, lowv := false, recovery := .none, record := none,
    lost := false }

/-- R184. -/
def Pif.reset : Pif :=
  { phase := .released, response := none, older := none, newer := none, mode := .holdOff, dropped := 0, flags := 0, mask := 0,
    baselines := .zero, ticket := 0 }

/-- The machine right after reset: every block at the after-reset values of its chapter (R193), the input lines
inactive (DESIGN CHOICE, unsafe, notes/assumptions/2.md) and no command waiting. -/
def State.reset : State :=
  { rstnLow := false, lowvPin := false, homePin := false, prm := .defaults, dfe := .reset, focus := .reset,
    track := .reset, dmn := .reset, spc := .reset, slc := .reset, pru := .reset, mve := .reset, arb := .reset,
    dsv := .reset, pifP := .reset, pifD := .reset, ctb := .zero, pending := [] }

end Sys2Proof.Machine
end

