-- ==== Sys2Proof/Machine/Operands.lean ====
section
/-!
DEFINITION. The operands of the requests: the codes of the enumerations and of the statuses (R188, R195), both ways,
the request catalogue with its ports and lengths (R190, R195), and the fields of the request words.
-/

namespace Sys2Proof.Machine

/-! ### Enumeration codes, from 0 in the order of R195 -/

def MoveKind.code : MoveKind → Nat
  | .start => 0 | .stop => 1 | .park => 2 | .play => 3 | .hold => 4 | .jump => 5 | .seekTrack => 6
  | .seekBlock => 7 | .resumeMark => 8 | .balance => 9

def MoveKind.ofCode : Nat → Option MoveKind
  | 0 => some .start | 1 => some .stop | 2 => some .park | 3 => some .play | 4 => some .hold | 5 => some .jump
  | 6 => some .seekTrack | 7 => some .seekBlock | 8 => some .resumeMark | 9 => some .balance
  | _ => none

def MoveOutcome.code : MoveOutcome → Nat
  | .done => 0 | .notReady => 1 | .badTarget => 2 | .missed => 3 | .noAddress => 4 | .timeout => 5
  | .markLost => 6 | .abortedUrgent => 7 | .abortedFlush => 8 | .focusLost => 9 | .trackLost => 10
  | .powerDip => 11 | .discReleased => 12 | .fault => 13

def DriveState.code : DriveState → Nat
  | .noDisc => 0 | .idle => 1 | .starting => 2 | .tracking => 3 | .holding => 4 | .moving => 5 | .recovering => 6
  | .stopping => 7 | .faulted => 8 | .powerHold => 9

def FaultKind.code : FaultKind → Nat
  | .focusFail => 0 | .trackFail => 1 | .spinFail => 2 | .sledStuck => 3 | .unclampSpinning => 4
  | .driveOverload => 5

def Clamp.code : Clamp → Nat
  | .clamped => 0 | .unclamped => 1 | .loading => 2

def Clamp.ofCode : Nat → Option Clamp
  | 0 => some .clamped | 1 => some .unclamped | 2 => some .loading
  | _ => none

/-- Whether a quality is GOOD; none outside the set (R94, R195). -/
def qualityOfCode : Nat → Option Bool
  | 0 => some true | 1 => some false
  | _ => none

def Policy.code : Policy → Nat
  | .playFirst => 0 | .deckFirst => 1 | .deckStrong => 2

def Policy.ofCode : Nat → Option Policy
  | 0 => some .playFirst | 1 => some .deckFirst | 2 => some .deckStrong
  | _ => none

def StoreMode.code : StoreMode → Nat
  | .holdOff => 0 | .overwrite => 1

def StoreMode.ofCode : Nat → Option StoreMode
  | 0 => some .holdOff | 1 => some .overwrite
  | _ => none

/-- The eight groups of GET_STATE (R191). -/
inductive StateGroup where
  | loops | detector | disturbance | spindle | sled | arbiter | drive | port
deriving DecidableEq, Repr

def StateGroup.ofCode : Nat → Option StateGroup
  | 0 => some .loops | 1 => some .detector | 2 => some .disturbance | 3 => some .spindle | 4 => some .sled
  | 5 => some .arbiter | 6 => some .drive | 7 => some .port
  | _ => none

def FocusState.code : FocusState → Nat
  | .opened => 0 | .search => 1 | .closed => 2 | .held => 3

def TrackState.code : TrackState → Nat
  | .opened => 0 | .closing => 1 | .closed => 2 | .held => 3 | .jumping => 4

def SpindleState.code : SpindleState → Nat
  | .stopped => 0 | .accel => 1 | .locking => 2 | .locked => 3 | .braking => 4 | .rundown => 5 | .coast => 6

def SledState.code : SledState → Nat
  | .unknown => 0 | .homing => 1 | .atHome => 2 | .trackingFollow => 3 | .seekDrive => 4 | .idle => 5

def Phase.code : Phase → Nat
  | .none => 0 | .homing => 1 | .search => 2 | .spinUp => 3 | .close => 4 | .coarse => 5 | .jump => 6
  | .addressWait => 7 | .revWait => 8 | .measure => 9 | .spinDown => 10

def DefectState.code : DefectState → Nat
  | .watching => 0 | .holding => 1 | .blocked => 2

def ArmedSide.code : ArmedSide → Nat
  | .none => 0 | .high => 1 | .low => 2

def GainSet.code : GainSet → Nat
  | .normal => 0 | .boost => 1

def Source.code : Source → Nat
  | .none => 0 | .queueP => 1 | .queueD => 2 | .urgent => 3

def Claim.code : Claim → Nat
  | .none => 0 | .queueP => 1 | .queueD => 2

def Recovery.code : Recovery → Nat
  | .none => 0 | .focus => 1 | .tracking => 2

def HoldJump.code : HoldJump → Nat
  | .none => 0 | .jumping => 1 | .closing => 2

def KickPhase.code : KickPhase → Nat
  | .none => 0 | .kick => 1 | .brake => 2

def SpinDir.code : SpinDir → Nat
  | .fwd => 0 | .rev => 1

def Dir.code : Dir → Nat
  | .outward => 0 | .inward => 1

def Ramp.code : Ramp → Nat
  | .rising => 0 | .falling => 1

/-- The status codes of R188. -/
def Status.code : Status → Nat
  | .ok => 0x00 | .clamped => 0x01 | .accepted => 0x02 | .queueFull => 0x80 | .slotBusy => 0x81
  | .notThisPort => 0x82 | .unknown => 0x83 | .badLength => 0x84 | .badValue => 0x85 | .notReady => 0x86

/-- A port's number in a record: 0 for P, 1 for D (R195). -/
def portCode : Port → Nat
  | .portP => 0 | .portD => 1

/-- The other port. -/
def otherPort : Port → Port
  | .portP => .portD | .portD => .portP

/-! ### Responses -/

/-- A response without payload. -/
def Response.plain (c : Status) : Response := { status := c, payload := [] }

/-- A refusal of R188: a status from 80h, LEN 0. -/
def Response.refusal (c : Status) : Response := { status := c, payload := [] }

/-- The bytes from part to master of a response frame (R185): the two fillers, STATUS, LEN, and the payload words, high
byte first. -/
def Response.bytes (r : Response) : List Byte :=
  [0, 0, BitVec.ofNat 8 r.status.code, BitVec.ofNat 8 r.payload.length] ++
    r.payload.flatMap (fun w => [Word.hi w, Word.lo w])

/-- The byte that a port shifts out at its next byte clock (R185): the next byte of the fillers and the response while it
responds, 00h beyond the last of them, and 00h while a request frame comes in. -/
def Pif.nextByte (v : Pif) : Byte :=
  match v.phase, v.response with
  | .responding k, some r => r.bytes.getD k 0
  | _, _ => 0

/-- A part of the response has not been shifted out (R186). -/
def Pif.unsent (v : Pif) : Bool :=
  match v.phase, v.response with
  | .responding k, some r => k < r.bytes.length
  | _, _ => false

/-! ### Fields of request words (R195) -/

/-- Word n of a payload; a word the payload does not hold reads 0 (the length is judged first, R189). -/
def wordAt (ws : List Word) (n : Nat) : Word := ws.getD n 0

/-- The unsigned two-word quantity at word n (R195). -/
def dwordAt (ws : List Word) (n : Nat) : Nat := (DWord.ofWords (wordAt ws n) (wordAt ws (n + 1))).toNat

/-- The signed two-word quantity at word n: the argument of SUBMIT (R195). -/
def signedDwordAt (ws : List Word) (n : Nat) : Int := (DWord.ofWords (wordAt ws n) (wordAt ws (n + 1))).toInt

/-- The length a ZONE_SET frame must have, from the count in its first word (R189, R195); none where the frame has no
first word. -/
def zoneSetLength (ws : List Word) : Option Nat :=
  match ws with
  | [] => none
  | w :: _ => some (2 + 4 * (Word.hi w).toNat)

/-- The entries of a ZONE_SET payload, four words each (R195). -/
def zoneEntriesOf : List Word → List ZoneEntry
  | b1 :: b0 :: t :: p :: rest =>
    { firstBlock := (DWord.ofWords b1 b0).toNat, firstTrack := t.toNat, bpt256 := p.toNat } :: zoneEntriesOf rest
  | _ => []

/-- The Zone Table a ZONE_SET payload carries (R195). -/
def zoneTableOf (ws : List Word) : ZoneTable :=
  { entries := zoneEntriesOf (ws.drop 2),
    endBlock := (Word.lo (wordAt ws 0)).toNat * 65536 + (wordAt ws 1).toNat }

/-- The ZONE_SET payload of a Zone Table: the payload of the GET_ZONES response (R195). -/
def zoneWords (z : ZoneTable) : List Word :=
  [bytesWord z.entries.length (z.endBlock / 65536), wordOf (z.endBlock % 65536 : Nat)] ++
    z.entries.flatMap (fun e => wordsOf e.firstBlock ++ [wordOf e.firstTrack, wordOf e.bpt256])

end Sys2Proof.Machine
end

