-- ==== Sys2Proof/Machine/Flags.lean ====
section
/-!
DEFINITION. The flags of the two ports: notices, masks and attention lines (R176 to R179), and the Counter Bank with
the ports' views and COUNTER_HALF (R180 to R182).
-/

namespace Sys2Proof.Machine

/-! ### One port's interface -/

/-- The Port Interface of a port. -/
def State.pif (s : State) : Port → Pif
  | .portP => s.pifP
  | .portD => s.pifD

/-- The state with one port's interface replaced. -/
def State.setPif (s : State) (p : Port) (f : Pif) : State :=
  match p with
  | .portP => { s with pifP := f }
  | .portD => { s with pifD := f }

/-! ### Notices -/

/-- The bit of a notice in the flag word and the mask word (R195). -/
def Notice.bit : Notice → Nat
  | .result => 0 | .qspace => 1 | .focusLost => 2 | .slip => 3 | .shock => 4 | .defectLong => 5 | .spin => 6
  | .driveState => 7 | .markLost => 8 | .fault => 9 | .counterHalf => 10 | .deck => 11

/-- The flag word with one notice alone. -/
def Notice.flag (n : Notice) : BitVec 12 := BitVec.ofNat 12 (2 ^ n.bit)

/-- A notice raised on a port sets that port's flag, whatever the mask says (R177). -/
def State.raise (s : State) (p : Port) (n : Notice) : State :=
  s.setPif p { s.pif p with flags := (s.pif p).flags ||| n.flag }

/-- A notice raised on both ports (R176). -/
def State.raiseBoth (s : State) (n : Notice) : State := (s.raise .portP n).raise .portD n

/-- A port's attention line is driven low while at least one of its flags is set and enabled, and reset is not held
(R178, R193). -/
def State.attention (s : State) (p : Port) : Bool :=
  !s.rstnLow && ((s.pif p).flags &&& (s.pif p).mask) != 0

/-! ### Counters -/

/-- The value of a counter. -/
def CounterBank.get (b : CounterBank) : CounterId → BitVec 32
  | .focusLost => b.focusLost | .slip => b.slip | .slipBursts => b.slipBursts | .defect => b.defect
  | .longDefect => b.longDefect | .shock => b.shock | .seekCorrection => b.seekCorrection | .seekMiss => b.seekMiss
  | .anchorReject => b.anchorReject | .anchorDrop => b.anchorDrop | .spinUnlock => b.spinUnlock
  | .preempt => b.preempt

/-- The bank with one counter written. -/
def CounterBank.put (b : CounterBank) (c : CounterId) (v : BitVec 32) : CounterBank :=
  match c with
  | .focusLost => { b with focusLost := v }
  | .slip => { b with slip := v }
  | .slipBursts => { b with slipBursts := v }
  | .defect => { b with defect := v }
  | .longDefect => { b with longDefect := v }
  | .shock => { b with shock := v }
  | .seekCorrection => { b with seekCorrection := v }
  | .seekMiss => { b with seekMiss := v }
  | .anchorReject => { b with anchorReject := v }
  | .anchorDrop => { b with anchorDrop := v }
  | .spinUnlock => { b with spinUnlock := v }
  | .preempt => { b with preempt := v }

/-- The counters in the fixed order of R180, in which GET_COUNTERS returns the views. -/
def CounterId.order : List CounterId :=
  [CounterId.focusLost, CounterId.slip, CounterId.slipBursts, CounterId.defect, CounterId.longDefect,
    CounterId.shock, CounterId.seekCorrection, CounterId.seekMiss, CounterId.anchorReject, CounterId.anchorDrop,
    CounterId.spinUnlock, CounterId.preempt]

/-- The difference of a counter and a baseline, modulo 2 to the 32 (R181). -/
def counterDiff (current baseline : BitVec 32) : Nat := (current - baseline).toNat

/-- A port's view of a counter (R181). -/
def counterView (current baseline : BitVec 32) : Nat := min (counterDiff current baseline) Config.max16

/-- COUNTER_HALF judged for one port at an increment that has been made (R182). -/
def State.judgeHalf (s : State) (c : CounterId) (p : Port) : State :=
  if counterDiff (s.ctb.get c) ((s.pif p).baselines.get c) = Config.halfView then s.raise p .counterHalf else s

/-- A counter rises by 1, wrapping at 32 bits, and COUNTER_HALF is judged on both ports (R180, R182). -/
def State.bump (s : State) (c : CounterId) : State :=
  let t := { s with ctb := s.ctb.put c (s.ctb.get c + 1) }
  (t.judgeHalf c .portP).judgeHalf c .portD

end Sys2Proof.Machine
end

