-- ==== Sys2Proof/Machine/Ops.lean ====
section
/-!
DEFINITION. The orders and updates that the blocks give one another, each one event at the block that owns the state:
the position record and its Zone Table (chapter 5), the loop commands (chapter 2), the spindle and sled orders
(chapter 4), the laser, the mark and the drive state (chapters 7 and 8), and the entry of a result (chapter 9).
-/

namespace Sys2Proof.Machine

/-! ### Timers -/

/-- A timer set to 0 and started. -/
def Timer.started : Timer := { count := 0, running := true }

/-- A timer stopped where it stands (DEDUCED, notes/assumptions/10.md: a stop keeps the count). -/
def Timer.stop (t : Timer) : Timer := { t with running := false }

/-- A timer one millisecond further. -/
def Timer.next (t : Timer) : Timer := { t with count := t.count + 1 }

/-- The timer runs and reaches a limit at this tick. -/
def Timer.dueAt (t : Timer) (limit : Nat) : Bool := t.running && limit ≤ t.count + 1

/-- What a tick does to a timer that does not reach its limit at it; one that does is left for its own event. -/
def Timer.tick (t : Timer) (limit : Nat) : Timer := if t.running && t.count + 1 < limit then t.next else t

/-! ### Zone Table conversions -/

/-- The first block of the table's range (R88). -/
def ZoneTable.firstBlock (z : ZoneTable) : Nat := (z.entries.head?.map (·.firstBlock)).getD 0

/-- The block lies within the table's range (R88). -/
def ZoneTable.inRange (z : ZoneTable) (b : Nat) : Bool := z.firstBlock ≤ b && b ≤ z.endBlock

/-- The track of a block, where the block lies in the range (R89). -/
def ZoneTable.trackOf (z : ZoneTable) (b : Nat) : Option Int :=
  if z.inRange b then
    (z.entries.filter (fun e => e.firstBlock ≤ b)).getLast?.map (fun e =>
      clampI 0 Config.maxTrack ((e.firstTrack + (b - e.firstBlock) * 256 / e.bpt256 : Nat) : Int))
  else none

/-- The start block of a track, where the track is not below the first entry's first track (R90). -/
def ZoneTable.startBlock (z : ZoneTable) (n : Int) : Option Nat :=
  (z.entries.filter (fun e => (e.firstTrack : Int) ≤ n)).getLast?.map (fun e =>
    min (e.firstBlock + (n - e.firstTrack).toNat * e.bpt256 / 256) z.endBlock)

/-- Each entry lies above the one before it in first block and in first track (R91, points 5 and 6). -/
def zonesRise : List ZoneEntry → Bool
  | e :: f :: rest => e.firstBlock < f.firstBlock && e.firstTrack < f.firstTrack && zonesRise (f :: rest)
  | _ => true

/-- The seven points of R91 that a table must pass. -/
def ZoneTable.valid (z : ZoneTable) : Bool :=
  (1 ≤ z.entries.length && z.entries.length ≤ 32) &&
    (z.entries.all (fun e => e.firstBlock ≤ Config.maxBlock) && z.endBlock ≤ Config.maxBlock) &&
    z.entries.all (fun e => (e.firstTrack : Int) ≤ Config.maxTrack) &&
    z.entries.all (fun e => 1024 ≤ e.bpt256 && e.bpt256 ≤ 7168) && zonesRise z.entries &&
    z.entries.getLast?.any (fun e => e.firstBlock ≤ z.endBlock)

/-! ### Position record -/

/-- The anchor dropped (R100): the two blocks become absent and the disagreement run 0. A record that is not anchored
is left as it is. -/
def State.dropAnchor (s : State) : State :=
  match s.pru.anchor with
  | none => s
  | some _ => { s with pru := { s.pru with anchor := none, run := 0 } }

/-- The estimated block formed again while anchored; where the track index has no start block the anchor is dropped
(R83). -/
def State.formEstimate (s : State) : State :=
  match s.pru.anchor, s.pru.zones.startBlock s.pru.trackIndex with
  | none, _ => s
  | some a, some e => { s with pru := { s.pru with anchor := some { a with estimated := e } } }
  | some _, none => s.dropAnchor

/-- The spindle's target period computed from the present track index, SF and KCLV (R63). -/
def State.retarget (s : State) : State :=
  { s with spc := { s.spc with target := targetPeriod s.pru.trackIndex s.prm.sf s.prm.kclv } }

/-- The track index set. A change is handed to the Spindle Controller and forms the estimated block again (R63, R83);
a value equal to the present one is no change. -/
def State.setIndex (s : State) (n : Int) : State :=
  if n = s.pru.trackIndex then s
  else ({ s with pru := { s.pru with trackIndex := n } } : State).retarget.formEstimate

/-- The step of a direction: OUTWARD adds, INWARD subtracts (R84). -/
def Dir.step : Dir → Int
  | .outward => 1
  | .inward => -1

/-- The track index moved by d tracks, clamped to its ends (R84, R85). -/
def State.moveIndex (s : State) (d : Int) : State :=
  s.setIndex (clampI Config.minTrack Config.maxTrack (s.pru.trackIndex + d))

/-! ### The mark, the laser, the drive state -/

/-- The position mark cleared; `tell` says whether the clearing raises MARK_LOST on Port P where the mark was valid
(R154). -/
def State.clearMark (s : State) (tell : Bool) : State :=
  match s.arb.mark with
  | none => s
  | some _ =>
    let t := { s with arb := { s.arb with mark := none } }
    if tell then t.raise .portP .markLost else t

/-- A holding jump in flight ends, its timer stopped and its state NONE (R118). -/
def State.endHoldJump (s : State) : State :=
  { s with mve := { s.mve with holdJump := .none, holdTimer := s.mve.holdTimer.stop } }

/-- The drive states in which the record can stay anchored and the mark valid (R100, R152, R157). -/
def DriveState.settled : DriveState → Bool
  | .tracking | .holding | .moving => true
  | _ => false

/-- The anchor and the mark at the entry to a drive state: both go unless the state is a settled one (R157). -/
def State.settle (s : State) (d : DriveState) : State := if d.settled then s else s.dropAnchor.clearMark true

/-- A holding jump at the departure from a drive state: it ends with HOLDING (R118, R157). -/
def State.leaveDrive (s : State) (d : DriveState) : State := if d = .holding then s.endHoldJump else s

/-- A change of the drive state with the effects of R157; an event that leaves the state as it was has none. The hand-on
to the Arbiter is the choice made at the end of the event (R142). -/
def State.setDrive (s : State) (d : DriveState) : State :=
  if d = s.dsv.drive then s
  else
    ((({ s with dsv := { s.dsv with drive := d } } : State).raiseBoth .driveState).settle d).leaveDrive s.dsv.drive

/-- The laser turned on at the Move Engine's request, refused unless the clamp is CLAMPED and LOWV deasserted (R161). -/
def State.laserOn (s : State) : State :=
  if s.dsv.clamp = .clamped && !s.dsv.lowv then { s with dsv := { s.dsv with laser := true } } else s

/-- The laser turned off (R161); every caller has ordered both loops OPEN at the same event. -/
def State.laserOff (s : State) : State := { s with dsv := { s.dsv with laser := false } }

/-! ### Loop commands -/

/-- The tracking loop written. A change of its state makes the crossing detector's armed side NONE (R15), here at the change
itself, also within a sample (DEDUCED, notes/assumptions/41.md). -/
def State.setTrack (s : State) (t : TrackLoop) : State :=
  { s with
    track := t
    dfe := if t.state = s.track.state then s.dfe else { s.dfe with armed := .none } }

/-- The entry effects of R23 on the tracking loop for OPEN and CLOSING: drive, I and e_prev 0, resume flag clear, kick
phase NONE. -/
def TrackLoop.emptied (t : TrackLoop) (st : TrackState) : TrackLoop :=
  { t with state := st, drive := 0, integ := 0, ePrev := 0, resume := false, kick := .none }

/-- Tracking open order (R22). -/
def State.trackOpen (s : State) : State := s.setTrack (s.track.emptied .opened)

/-- The focus loop OPEN, with the entry effects of R23. -/
def FocusLoop.emptied (f : FocusLoop) : FocusLoop :=
  { f with state := .opened, drive := 0, integ := 0, ePrev := 0, resume := false }

/-- Focus open order: tracking goes OPEN at the same event, before focus does (R20, R22). -/
def State.focusOpen (s : State) : State :=
  let t := s.trackOpen
  { t with focus := t.focus.emptied }

/-- A search command is taken while the laser is on, and refused otherwise (R22). -/
def State.searchTaken (s : State) : Bool := s.dsv.laser

/-- Search command (R32); refused, it leaves the loops as they are (R22). It uses SEARCH_SPAN as it stands at the command
(DEDUCED, notes/assumptions/40.md). -/
def State.searchCommand (s : State) : State :=
  if s.searchTaken then
    let t := s.trackOpen
    { t with
      focus :=
        { t.focus with
          state := .search, drive := -(t.prm.searchSpan : Int), integ := 0, ePrev := 0, resume := false,
          ramp := .rising, sweeps := 0, prevFe := none } }
  else s

/-- The focus states in which tracking may leave OPEN (R20). -/
def FocusState.locked : FocusState → Bool
  | .closed | .held => true
  | _ => false

/-- A close or jump command is taken while the focus loop is CLOSED or HELD and the laser is on (R20, R21, R22). -/
def State.lensTaken (s : State) : Bool := s.dsv.laser && s.focus.state.locked

/-- Close command (R35): CLOSING with a fresh close timer; refused, it leaves the loop as it is (R22). -/
def State.closeCommand (s : State) : State :=
  if s.lensTaken then s.setTrack { s.track.emptied .closing with closeTimer := 0 } else s

/-- The drive of a kick in a direction, and of a brake with the opposite sign (R37, R38). -/
def kickDrive (kick : Nat) (d : Dir) (ph : KickPhase) : Int :=
  match ph with
  | .brake => -(d.step * kick)
  | _ => d.step * kick

/-- Jump command (R37); refused, it leaves the loop as it is (R22). It uses KICK as it stands at the command (DEDUCED,
notes/assumptions/40.md). -/
def State.jumpCommand (s : State) (d : Dir) : State :=
  if s.lensTaken then
    s.setTrack
      { s.track.emptied .jumping with kick := .kick, jumpDir := d, drive := kickDrive s.prm.kick d .kick }
  else s

/-- Brake command (R38); disregarded unless the loop is JUMPING with kick phase KICK (R22). -/
def State.brakeCommand (s : State) : State :=
  if s.track.state = .jumping ∧ s.track.kick = .kick then
    { s with
      track := { s.track with kick := .brake, drive := kickDrive s.prm.kick s.track.jumpDir .brake } }
  else s

/-- A focus loop that is CLOSED enters HELD and keeps its drive and memory (R28). -/
def State.holdFocus (s : State) : State :=
  if s.focus.state = .closed then { s with focus := { s.focus with state := .held } } else s

/-- A tracking loop that is CLOSED enters HELD and keeps its drive and memory (R28). -/
def State.holdTrack (s : State) : State :=
  if s.track.state = .closed then s.setTrack { s.track with state := .held } else s

/-- A defect hold ordered on the loops (R28). -/
def State.holdLoops (s : State) : State := s.holdFocus.holdTrack

/-- A focus loop that is HELD returns to CLOSED with its resume flag set (R29). -/
def State.releaseFocus (s : State) : State :=
  if s.focus.state = .held then { s with focus := { s.focus with state := .closed, resume := true } } else s

/-- A tracking loop that is HELD returns to CLOSED with its resume flag set (R29). -/
def State.releaseTrack (s : State) : State :=
  if s.track.state = .held then s.setTrack { s.track with state := .closed, resume := true } else s

/-- The end of a defect hold (R29). -/
def State.releaseLoops (s : State) : State := s.releaseFocus.releaseTrack

/-- The gain set of both loops (R31). -/
def State.setGains (s : State) (g : GainSet) : State :=
  { s with focus := { s.focus with gains := g }, track := { s.track with gains := g } }

/-! ### Spindle orders -/

/-- The PWM output cut at once, without waiting for the end of the period (R65). -/
def Pwm.cut : Pwm := { last := 0, out := 0 }

/-- The PWM output of the next period for a signed duty (R64): inactive where the duty is enabled from zero or changes
its direction, the duty otherwise. -/
def Pwm.next (p : Pwm) (cmd : Int) : Pwm :=
  { last := cmd, out := if p.last.sign = cmd.sign then cmd else 0 }

/-- The spindle duty with its direction as a sign, REV negative (R64). -/
def Spc.signedDuty (c : Spc) : Int :=
  match c.dir with
  | .fwd => c.duty
  | .rev => -(c.duty : Int)

/-- Entry to ACCEL (R66). -/
def Spc.accelerate (c : Spc) : Spc :=
  { c with state := .accel, dir := .fwd, duty := 255, inRun := 0, outRun := 0, spinTimer := .started }

/-- A rest state entered with duty 0 and direction FWD, the spin timer stopped (R70, R72 to R74). -/
def Spc.rest (c : Spc) (st : SpindleState) : Spc :=
  { c with state := st, dir := .fwd, duty := 0, spinTimer := c.spinTimer.stop }

/-- Accelerate order (R66); refused while the permit is withdrawn. -/
def State.accelerateOrder (s : State) : State :=
  if s.spc.permit then
    match s.spc.state with
    | .stopped | .rundown | .coast | .braking => { s with spc := s.spc.accelerate }
    | .accel | .locking | .locked => s
  else s

/-- Coast order (R73). -/
def State.coastOrder (s : State) : State :=
  match s.spc.state with
  | .accel | .locking | .locked | .braking | .rundown =>
    { s with spc := { s.spc.rest .coast with inRun := 0, outRun := 0 } }
  | .coast | .stopped => s

/-- Brake order (R72); taken as a coast order while the permit is withdrawn. -/
def State.brakeOrder (s : State) : State :=
  if s.spc.permit then
    match s.spc.state with
    | .accel | .locking | .locked | .coast =>
      { s with
        spc :=
          { s.spc with
            state := .braking, dir := .rev, duty := 255, inRun := 0, outRun := 0, spinTimer := s.spc.spinTimer.stop } }
    | .braking | .rundown | .stopped => s
  else s.coastOrder

/-- The drive permit withdrawn: the duty is 0, the driver output is cut at once, and a coast order is taken (R65). -/
def State.withdrawPermit (s : State) : State :=
  ({ s with spc := { s.spc with permit := false, duty := 0, pwm := .cut } } : State).coastOrder

/-- The permit withdrawn at a deck report: a permit already withdrawn is left as it is, and the spindle gets no new coast
order (R159; DEDUCED outside NO_DISC, notes/assumptions/34.md). -/
def State.withdrawGranted (s : State) : State := if s.spc.permit then s.withdrawPermit else s

/-- The drive permit granted where the clamp is CLAMPED and LOWV deasserted; it changes no spindle state and no duty
(R65, R158, R168). -/
def State.grantPermit (s : State) : State :=
  if s.dsv.clamp = .clamped && !s.dsv.lowv then { s with spc := { s.spc with permit := true } } else s

/-! ### Sled orders -/

/-- A sled duty as the home switch limits it outside HOMING: no negative duty while HOME is active (R76). -/
def State.limitedDuty (s : State) (d : Int) : Int := if s.homePin && d < 0 then 0 else d

/-- The following sums and the nudge timer cleared (R77, R79). -/
def Slc.cleared (c : Slc) : Slc := { c with followSum := 0, followCount := 0, nudgeTimer := .stopped }

/-- The sled at rest, in IDLE or UNKNOWN by the homed flag (R79, R80). -/
def Slc.rest (c : Slc) : Slc :=
  { c with
    state := if c.homed then .idle else .unknown
    duty := 0, homingTimer := c.homingTimer.stop, nudgeTimer := c.nudgeTimer.stop, followSum := 0, followCount := 0 }

/-- Homing completes (R78): AT_HOME, homed, and the track index at HOME_TRACK. -/
def State.homingComplete (s : State) : State :=
  ({ s with
      slc := { s.slc with state := .atHome, duty := 0, homingTimer := s.slc.homingTimer.stop, homed := true } } : State).setIndex
    s.prm.homeTrack

/-- Homing order (R77); with HOME already active homing completes at once, and no drive is applied. -/
def State.homingOrder (s : State) : State :=
  let t := { s with slc := { s.slc.cleared with state := .homing, homed := false } }
  if s.homePin then t.homingComplete
  else { t with slc := { t.slc with duty := -(s.prm.sledPark : Int), homingTimer := .started } }

/-- Seek drive order (R79). -/
def State.seekDriveOrder (s : State) (d : Dir) : State :=
  { s with
    slc :=
      { s.slc.cleared with
        state := .seekDrive, duty := s.limitedDuty (d.step * s.prm.sledSeek),
        homingTimer := s.slc.homingTimer.stop } }

/-- Sled stop order (R79); in UNKNOWN, IDLE and AT_HOME it changes nothing. -/
def State.sledStop (s : State) : State :=
  match s.slc.state with
  | .seekDrive | .homing | .trackingFollow => { s with slc := s.slc.rest }
  | .unknown | .idle | .atHome => s

/-! ### Results -/

/-- A result enters the store of its port by the store's fill, and RESULT is raised there (R172, R173). -/
def State.storeResult (s : State) (r : Result) : State :=
  let f := s.pif r.port
  let g :=
    match f.older, f.newer with
    | none, _ => { f with older := some r }
    | some _, none => { f with newer := some r }
    | some _, some _ => { f with newer := some r, dropped := satN 255 (f.dropped + 1) }
  (s.setPif r.port g).raise r.port .result

/-- The fill of a result store (R171). -/
def Pif.fill (f : Pif) : Nat := f.older.toList.length + f.newer.toList.length

end Sys2Proof.Machine
end

