-- ==== Sys2Proof/Machine/Supervisor.lean ====
section
/-!
DEFINITION. The end of a move with its result and its completion (R106, R132, R145, R148), and the Drive Supervisor's
fault latch, fault stop and recovery (chapter 8, R129, R133).
-/

namespace Sys2Proof.Machine

/-! ### The end of a move -/

/-- A port's queue. -/
def State.queueOf (s : State) : Port → List Entry
  | .portP => s.arb.queueP
  | .portD => s.arb.queueD

/-- The state with one port's queue replaced. -/
def State.setQueue (s : State) (p : Port) (q : List Entry) : State :=
  match p with
  | .portP => { s with arb := { s.arb with queueP := q } }
  | .portD => { s with arb := { s.arb with queueD := q } }

/-- A port's queue replaced at one event; going from 4 entries to fewer raises QSPACE on the port (R135). -/
def State.shrinkQueue (s : State) (p : Port) (q : List Entry) : State :=
  let t := s.setQueue p q
  if (s.queueOf p).length = Config.queueDepth ∧ q.length < Config.queueDepth then t.raise p .qspace else t

/-- The result record of a move, from the state that stands after the completion's own effects (R132). -/
def State.resultOf (s : State) (m : ActiveMove) (o : MoveOutcome) (measured : Option Nat) : Result :=
  { port := m.port, ticket := m.ticket, kind := m.kind, urgent := m.urgent, chained := m.chain, outcome := o,
    trackIndex := s.pru.trackIndex, anchorBlock := s.pru.anchor.map (·.block), corrections := s.mve.corrections,
    elapsed := s.mve.elapsed,
    last := if m.urgent then (s.queueOf m.port).isEmpty else (s.queueOf m.port).tail.isEmpty
    measured := measured }

/-- The completion as the Arbiter takes it, less the choice (R148 steps 1 to 3): the entry leaves its queue or the
slot, the source becomes NONE, and the chain claim is set by R145. No outcome stands for an abort by RESET_PORT. -/
def State.arbComplete (s : State) (o : Option MoveOutcome) (chain : Bool) : State :=
  let goesOn := o = some .done ∧ chain = true
  match s.arb.source with
  | .queueP =>
    let t := s.shrinkQueue .portP s.arb.queueP.tail
    { t with arb := { t.arb with source := .none, claim := if goesOn then .queueP else .none } }
  | .queueD =>
    let t := s.shrinkQueue .portD s.arb.queueD.tail
    { t with arb := { t.arb with source := .none, claim := if goesOn then .queueD else .none } }
  | .urgent =>
    { s with arb := { s.arb with urgent := none, urgentWaiting := false, source := .none, claim := .none } }
  | .none => { s with arb := { s.arb with claim := .none } }

/-- The Move Engine without the active move: absent, phase NONE, every timer of the move stopped (R106). -/
def Mve.endMove (m : Mve) : Mve :=
  { m with
    active := none, returnState := none, phase := .none, jumpTimer := m.jumpTimer.stop,
    seekTimer := m.seekTimer.stop, waitTimer := m.waitTimer.stop, gapTimer := m.gapTimer.stop }

/-- The active move ended at the step of an event that names it (R106). -/
def State.endMove (s : State) : State := { s with mve := s.mve.endMove }

/-- All work in flight ended with no report at a Drive Supervisor event: the active move, a holding jump, a settling
close and a recovery activity (R129, R160, R162, R165, R167). -/
def State.endWork (s : State) : State :=
  { s with
    mve :=
      { s.mve.endMove with
        holdJump := .none, holdTimer := s.mve.holdTimer.stop, settling := false, activity := .none } }

/-- The result formed and handed to the Port Interface, and after it the completion to the Arbiter (R106). -/
def State.finishMove (s : State) (m : Option ActiveMove) (o : MoveOutcome) (measured : Option Nat) : State :=
  match m with
  | none => s
  | some a => (s.storeResult (s.resultOf a o measured)).arbComplete (some o) a.chain

/-! ### Faults -/

/-- A fault latched, with its fields as they stand, or the lost flag set where a record is already latched (R164). -/
def State.latchFault (s : State) (k : FaultKind) : State :=
  match s.dsv.record with
  | some _ => { s with dsv := { s.dsv with lost := true } }
  | none =>
    let r : FaultRecord :=
      { kind := k, drive := s.dsv.drive,
        active := s.mve.active.map (fun m => { port := m.port, ticket := m.ticket, kind := m.kind }),
        trackIndex := s.pru.trackIndex, period := s.spc.tm }
    ({ s with dsv := { s.dsv with record := some r } } : State).raiseBoth .fault

/-- The recovery kind NONE. -/
def State.noRecovery (s : State) : State := { s with dsv := { s.dsv with recovery := .none } }

/-- A fault stop in the order of R165; the result of the move it ends is formed after its steps (R106). -/
def State.faultStop (s : State) : State :=
  let t := s.focusOpen.laserOff.sledStop.brakeOrder
  let u := t.endWork.noRecovery.setDrive .faulted
  u.finishMove s.mve.active .fault none

/-- A fault of any kind but UNCLAMP_SPINNING: latched, and then a fault stop unless the drive is FAULTED or POWER_HOLD
(R164). -/
def State.fault (s : State) (k : FaultKind) : State :=
  let t := s.latchFault k
  if s.dsv.drive = .faulted ∨ s.dsv.drive = .powerHold then t else t.faultStop

/-! ### Recovery -/

/-- "recovery failed": the activity and the recovery kind become NONE, and the fault of the kind is reported
(R133, R163). -/
def State.recoveryFailed (s : State) (k : FaultKind) : State :=
  ({ s with mve := { s.mve with activity := .none } } : State).noRecovery.fault k

/-- The close phase of a recovery activity (R133); a refused close fails it at once (R107). -/
def State.recoveryClose (s : State) : State :=
  let t := { s with mve := { s.mve with activity := .close, closeTries := 1, settling := false } }
  if s.lensTaken then t.closeCommand else t.recoveryFailed .trackFail

/-- The search of a recovery activity (R133); "search refused" fails it. -/
def State.recoverySearch (s : State) : State :=
  let t := { s with mve := { s.mve with activity := .search, settling := false } }
  if s.searchTaken then t.searchCommand else t.recoveryFailed .focusFail

/-- A recovery start in the order of R162, after "focus lost" or "tracking lost"; the result of the move it ends is
formed after its steps (R106, R129). -/
def State.startRecovery (s : State) (onFocus : Bool) : State :=
  let t := s.endWork.sledStop.setDrive .recovering
  let u := { t with dsv := { t.dsv with recovery := if onFocus then .focus else .tracking } }
  let v := if onFocus then u.recoverySearch else u.recoveryClose
  v.finishMove s.mve.active (if onFocus then .focusLost else .trackLost) none

/-- The drive states in which a lost loop starts a recovery (R162). -/
def DriveState.recovers : DriveState → Bool
  | .tracking | .holding | .moving | .starting => true
  | _ => false

/-- "tracking lost" at the Drive Supervisor (R162). -/
def State.trackingLost (s : State) : State := if s.dsv.drive.recovers then s.startRecovery false else s

/-- "focus lost" at the Drive Supervisor (R162, R163). -/
def State.focusLost (s : State) : State :=
  if s.dsv.drive.recovers then s.startRecovery true
  else if s.dsv.drive = .recovering ∧ s.dsv.recovery = .tracking then
    let t := { s with mve := { s.mve with activity := .none }, dsv := { s.dsv with recovery := .focus } }
    t.recoverySearch
  else s

/-- "recovered" at the Drive Supervisor (R133, R163). -/
def State.recovered (s : State) : State :=
  ({ s with mve := { s.mve with activity := .none } } : State).noRecovery.setDrive .tracking

end Sys2Proof.Machine
end

