-- ==== Sys2Proof/Machine/Moves.lean ====
section
/-!
DEFINITION. The Move Engine (chapter 6): the phases of every kind of move, the reports it takes from the loops, the
spindle and the sled, the standing hold, the settling close, and the readiness check at a grant.
-/

namespace Sys2Proof.Machine

/-! ### Completion by the move's own decision -/

/-- The drive state while a move of a kind is active (R105, first table). -/
def MoveKind.driveDuring : MoveKind → DriveState
  | .start => .starting
  | .stop | .park => .stopping
  | _ => .moving

/-- The drive state after a completion by the move's own decision (R105, second table). -/
def MoveKind.driveAfter (k : MoveKind) (ret : Option DriveState) : Option DriveState :=
  match k with
  | .start | .play => some .tracking
  | .stop | .park => some .idle
  | .hold => some .holding
  | .jump | .seekTrack | .seekBlock | .resumeMark | .balance => ret

/-- A move completes by its own decision: it ends, the drive state becomes the one of R105, and the result and the
completion are handed on (R106). -/
def State.completeMove (s : State) (o : MoveOutcome) (measured : Option Nat) : State :=
  match s.mve.active with
  | none => s
  | some m =>
    let t := s.endMove
    let u :=
      match m.kind.driveAfter s.mve.returnState with
      | some d => t.setDrive d
      | none => t
    u.finishMove (some m) o measured

/-- A move completes at its grant by the readiness check: the drive state stays as it stood (R104). -/
def State.completeAtGrant (s : State) (o : MoveOutcome) : State :=
  s.endMove.finishMove s.mve.active o none

/-! ### Close phase (R107) -/

/-- A failed close phase of the active move: the fault TRACK_FAIL in START, "tracking lost" in the other kinds. -/
def State.failClosePhase (s : State) : State :=
  match s.mve.active with
  | none => s
  | some m => if m.kind = .start then s.fault .trackFail else s.trackingLost

/-- A close phase of the active move starts with the close command and close tries 1; a refused close fails it. -/
def State.startClosePhase (s : State) : State :=
  let t := { s with mve := { s.mve with phase := .close, closeTries := 1, settling := false } }
  if s.lensTaken then t.closeCommand else t.failClosePhase

/-! ### Jump and coarse phases (R108, R109) -/

/-- A jump phase of n tracks in a direction; "jump refused" is treated as a failed close phase (R108). -/
def State.startJumpPhase (s : State) (n : Nat) (d : Dir) : State :=
  let t :=
    { s with
      mve :=
        { s.mve with
          phase := .jump, jumpSize := n, jumpDir := d, crossings := 0, jumpTimer := .started, settling := false } }
  if s.lensTaken then t.jumpCommand d
  else ({ t with mve := { t.mve with jumpTimer := t.mve.jumpTimer.stop } } : State).failClosePhase

/-- The direction of a signed distance (00_scope.md 5.6). -/
def dirOf (d : Int) : Dir := if d < 0 then .inward else .outward

/-- A coarse phase of a distance d, with |d| at least 65 (R109). Its direction is held in the jump direction from here on
(DESIGN CHOICE, notes/assumptions/43.md). -/
def State.startCoarse (s : State) (d : Int) : State :=
  let t :=
    { s with
      mve :=
        { s.mve with
          phase := .coarse, jumpDir := dirOf d, crossings := 0, coarseGoal := d.natAbs - Config.coarseJump,
          seekTimer := .started, settling := false } }
  t.trackOpen.seekDriveOrder (dirOf d)

/-- The spot moved by a distance that is not 0: a jump phase up to 64 tracks, a coarse phase beyond (R119, R120). -/
def State.moveBy (s : State) (d : Int) : State :=
  if d.natAbs ≤ Config.coarseJump then s.startJumpPhase d.natAbs (dirOf d) else s.startCoarse d

/-! ### Seek by block (R121 to R124) -/

/-- The spot moved by a distance, ending in a close phase; a distance of 0 enters the close phase directly
(R121 step 4). -/
def State.seekMove (s : State) (d : Int) : State := if d = 0 then s.startClosePhase else s.moveBy d

/-- The aim block formed for a target block (R121 step 2). -/
def State.aimAt (s : State) (b : Nat) : State :=
  { s with
    mve := { s.mve with target := b, aim := max (b - s.prm.seekWin / 2) s.pru.zones.firstBlock } }

/-- The distance from a track to the track of the aim block (R121 step 3, R123, R124). -/
def State.aimDistance (s : State) (n : Int) : Int := (s.pru.zones.trackOf s.mve.aim).getD n - n

/-- A seek by block begins towards a target block in the table's range (R121). -/
def State.startSeek (s : State) (b : Nat) : State :=
  let t := s.aimAt b
  t.seekMove (t.aimDistance t.pru.trackIndex)

/-- An address wait starts (R122). -/
def State.startAddressWait (s : State) : State :=
  { s with
    mve :=
      { s.mve with
        phase := .addressWait, waitLimit := max s.prm.addrWait Config.minAddressWait, waitTimer := .started } }

/-- The exhaustion check, the table check, the count and the aim of a correction (R123 and R124, steps 1 to 4); `go`
makes the movement from there. -/
def State.correctWith (s : State) (miss : MoveOutcome) (go : State → State) : State :=
  let t := { s with mve := { s.mve with waitTimer := s.mve.waitTimer.stop } }
  if s.prm.seekCorr ≤ s.mve.corrections then (t.bump .seekMiss).completeMove miss none
  else if s.pru.zones.inRange s.mve.target then
    let u := { t with mve := { t.mve with corrections := s.mve.corrections + 1 } }
    go ((u.bump .seekCorrection).aimAt s.mve.target)
  else t.completeMove .badTarget none

/-- The correction distance on a GOOD report r: from the track of r, a distance of 0 taken as -1; from the track index
where r lies outside the table's range, a distance of 0 then kept (R123 step 4; DEDUCED, notes/assumptions/37.md). -/
def State.reportDistance (s : State) (r : Nat) : Int :=
  match s.pru.zones.trackOf r with
  | some n => if s.aimDistance n = 0 then -1 else s.aimDistance n
  | none => s.aimDistance s.pru.trackIndex

/-- A correction made on a GOOD report outside the window (R123). -/
def State.correctOnReport (s : State) (r : Nat) : State :=
  s.correctWith .missed (fun t => t.seekMove (t.reportDistance r))

/-- A correction made on a wait that expired (R124). -/
def State.correctOnExpiry (s : State) : State :=
  s.correctWith .noAddress (fun t =>
    let d := t.aimDistance t.pru.trackIndex
    if d = 0 then t.startAddressWait else t.moveBy d)

/-- A report handed to a seek in its address wait (R122). -/
def State.seekReport (s : State) (good : Bool) (r : Nat) : State :=
  if good then
    if s.mve.target ≤ r + s.prm.seekWin ∧ r ≤ s.mve.target then s.completeMove .done none
    else s.correctOnReport r
  else s

/-! ### START, STOP and PARK (R111 to R114) -/

/-- The search phase of START (R111); "search refused" ends it by the fault FOCUS_FAIL (R112). -/
def State.startSearch (s : State) : State :=
  let t := { s with mve := { s.mve with phase := .search, settling := false } }
  if s.searchTaken then t.searchCommand else t.fault .focusFail

/-- "sled homed" at the Move Engine: START goes on to its search, PARK completes (R111, R114). -/
def State.onSledHomed (s : State) : State :=
  match s.mve.active, s.mve.phase with
  | some m, .homing =>
    match m.kind with
    | .start => s.startSearch
    | .park => s.completeMove .done none
    | _ => s
  | _, _ => s

/-- The homing phase of START or PARK; with HOME already active it completes at once (R77, R111, R114). -/
def State.startHoming (s : State) : State :=
  let t := ({ s with mve := { s.mve with phase := .homing, settling := false } } : State).homingOrder
  if s.homePin then t.onSledHomed else t

/-- "sled stuck" at the Move Engine (R112, R114). -/
def State.onSledStuck (s : State) : State :=
  match s.mve.active, s.mve.phase with
  | some _, .homing => s.fault .sledStuck
  | _, _ => s

/-- "spindle locked" at the Move Engine (R111). -/
def State.onSpindleLocked (s : State) : State :=
  match s.mve.active, s.mve.phase with
  | some _, .spinUp => s.startClosePhase
  | _, _ => s

/-- The spin-up phase of START (R111): "spin refused" ends it by SPIN_FAIL (R110, R112), and a spindle already LOCKED
reports at once (R66). -/
def State.startSpinUp (s : State) : State :=
  let t := { s with mve := { s.mve with phase := .spinUp } }
  if s.spc.permit then
    if s.spc.state = .locked then t.onSpindleLocked else t.accelerateOrder
  else t.fault .spinFail

/-- "spindle stopped" at the Move Engine: STOP completes, PARK goes on to its homing (R113, R114). -/
def State.onSpindleStopped (s : State) : State :=
  match s.mve.active, s.mve.phase with
  | some m, .spinDown =>
    match m.kind with
    | .stop => s.completeMove .done none
    | .park => s.startHoming
    | _ => s
  | _, _ => s

/-- The four orders of STOP and PARK, and SPIN_DOWN; a spindle already STOPPED reports at once (R72, R113, R114). -/
def State.startSpinDown (s : State) : State :=
  let t := s.focusOpen.laserOff.sledStop.brakeOrder
  let u := { t with mve := { t.mve with phase := .spinDown, settling := false } }
  if s.spc.state = .stopped then u.onSpindleStopped else u

/-! ### Reports of the Loop Processor -/

/-- "focus pulled in" (R111, R133). -/
def State.onPulledIn (s : State) : State :=
  match s.mve.active, s.mve.phase with
  | some _, .search => s.startSpinUp
  | _, _ => if s.mve.activity = .search then s.recoveryClose else s

/-- "search failed" (R112, R133). -/
def State.onSearchFailed (s : State) : State :=
  match s.mve.active, s.mve.phase with
  | some _, .search => s.fault .focusFail
  | _, _ => if s.mve.activity = .search then s.recoveryFailed .focusFail else s

/-- The measured balance (R127). -/
def measuredBalance (sumE sumF : Nat) : Nat :=
  if sumF = 0 then 383 else (clampI 128 383 (roundUp (256 * sumE) sumF : Nat)).toNat

/-- A close phase of the active move succeeds: the kind's next step (R107, R111, R116, R119 to R121, R127). -/
def State.closePhaseDone (s : State) : State :=
  match s.mve.active with
  | none => s
  | some m =>
    match m.kind with
    | .start | .hold => s.completeMove .done none
    | .jump | .seekTrack => s.completeMove (if s.mve.timedOut then .timeout else .done) none
    | .seekBlock | .resumeMark => s.startAddressWait
    | .balance =>
      match s.mve.timedOut, s.mve.measured with
      | false, some v => ({ s with prm := s.prm.set .tbal v } : State).completeMove .done (some v)
      | _, _ => s.completeMove .timeout none
    | .stop | .park | .play => s

/-- A settling close or a holding jump or a recovery's close, or the active move's close phase, takes "tracking closed"
(R107, R117, R130, R133); a report that none waits for is disregarded (R110). -/
def State.onTrackingClosed (s : State) : State :=
  if s.mve.settling then { s with mve := { s.mve with settling := false } }
  else if s.mve.phase = .close then s.closePhaseDone
  else if s.mve.holdJump = .closing then s.endHoldJump
  else if s.mve.activity = .close then s.recovered
  else s

/-- A failed holding jump ends, and "tracking lost" is reported (R118). -/
def State.failHoldJump (s : State) : State := s.endHoldJump.trackingLost

/-- A failed settling close ends, and "tracking lost" is reported (R130). -/
def State.failSettling (s : State) : State :=
  ({ s with mve := { s.mve with settling := false } } : State).trackingLost

/-- "close failed" is taken by whichever close waits: retried while its tries are below TRACK_TRIES, failed otherwise,
and failed at once where the retry is refused (R107). -/
def State.onCloseFailed (s : State) : State :=
  if s.mve.settling then
    if s.mve.settleTries < s.prm.trackTries ∧ s.lensTaken = true then
      ({ s with mve := { s.mve with settleTries := s.mve.settleTries + 1 } } : State).closeCommand
    else s.failSettling
  else if s.mve.phase = .close then
    if s.mve.closeTries < s.prm.trackTries ∧ s.lensTaken = true then
      ({ s with mve := { s.mve with closeTries := s.mve.closeTries + 1 } } : State).closeCommand
    else s.failClosePhase
  else if s.mve.holdJump = .closing then
    if s.mve.holdTries < s.prm.trackTries ∧ s.lensTaken = true then
      ({ s with mve := { s.mve with holdTries := s.mve.holdTries + 1 } } : State).closeCommand
    else s.failHoldJump
  else if s.mve.activity = .close then
    if s.mve.closeTries < s.prm.trackTries ∧ s.lensTaken = true then
      ({ s with mve := { s.mve with closeTries := s.mve.closeTries + 1 } } : State).closeCommand
    else s.recoveryFailed .trackFail
  else s

/-- A close waits for the Loop Processor's report: a close phase, a holding jump's, a settling or a recovery's. -/
def State.closeAwaited (s : State) : Bool :=
  s.mve.settling || s.mve.phase = .close || s.mve.holdJump = .closing || s.mve.activity = .close

/-! ### The standing hold (R117) -/

/-- A holding jump starts: one track INWARD, with its own timer (R117). -/
def State.startHoldJump (s : State) : State :=
  let t := { s with mve := { s.mve with holdJump := .jumping, holdTimer := .started, settling := false } }
  if s.lensTaken then t.jumpCommand .inward else t.failHoldJump

/-- The close of a holding jump, on its crossing or at its timeout (R117). -/
def State.closeHoldJump (s : State) : State :=
  let t :=
    { s with mve := { s.mve with holdJump := .closing, holdTimer := s.mve.holdTimer.stop, holdTries := 1 } }
  if s.lensTaken then t.closeCommand else t.failHoldJump

/-! ### Crossings and revolutions -/

/-- A crossing event at the Move Engine (R108, R109, R117). A holding jump closes on its first crossing, which is not
entered in the crossings counted of a move (DEDUCED, notes/assumptions/39.md). -/
def State.mveCrossing (s : State) : State :=
  let n := s.mve.crossings + 1
  let t := { s with mve := { s.mve with crossings := n } }
  match s.mve.phase with
  | .jump =>
    if n = s.mve.jumpSize then
      ({ t with mve := { t.mve with jumpTimer := t.mve.jumpTimer.stop } } : State).startClosePhase
    else if 1 < s.mve.jumpSize ∧ n = (s.mve.jumpSize + 1) / 2 then t.brakeCommand
    else t
  | .coarse =>
    if n = s.mve.coarseGoal then
      ({ t with mve := { t.mve with seekTimer := t.mve.seekTimer.stop } } : State).sledStop.startJumpPhase
        Config.coarseJump s.mve.jumpDir
    else t
  | _ => if s.mve.holdJump = .jumping then s.closeHoldJump else s

/-- The tracking states that follow the spiral, CLOSED and HELD (R85, R116, R117). -/
def TrackState.follows : TrackState → Bool
  | .closed | .held => true
  | _ => false

/-- A revolution event in MEASURE (R126, R127). -/
def State.measureRevolution (s : State) : State :=
  let n := s.mve.revsMeasured + 1
  let t := { s with mve := { s.mve with revsMeasured := n, gapTimer := { s.mve.gapTimer with count := 0 } } }
  if s.prm.balRevs ≤ n then
    let u :=
      { t with
        mve :=
          { t.mve with
            measured := some (measuredBalance s.mve.sumE s.mve.sumF), gapTimer := t.mve.gapTimer.stop } }
    u.startClosePhase
  else t

/-- A revolution event at the Move Engine (R116, R117, R126). -/
def State.mveRevolution (s : State) : State :=
  match s.mve.active, s.mve.phase with
  | some m, .revWait =>
    if m.kind = .hold then
      if s.track.state.follows then s.startJumpPhase 1 .inward else s
    else { s with mve := { s.mve with phase := .measure, gapTimer := .started } }
  | some _, .measure => s.measureRevolution
  | some _, _ => s
  | none, _ =>
    if s.dsv.drive = .holding ∧ s.mve.holdJump = .none ∧ s.mve.activity = .none ∧ s.track.state.follows = true then
      s.startHoldJump
    else s

/-- A sample's E' and F' added to the balance sums while MEASURE lasts (R13, R126). -/
def State.balanceSample (s : State) : State :=
  if s.mve.phase = .measure then
    { s with
      mve :=
        { s.mve with
          sumE := satN Config.maxBalanceSum (s.mve.sumE + s.dfe.eDash)
          sumF := satN Config.maxBalanceSum (s.mve.sumF + s.dfe.fDash) } }
  else s

/-! ### The grant at the Move Engine (R103 to R105) -/

/-- What the readiness check of R104 answers. -/
inductive Readiness where
  /-- The move completes at its grant with an outcome, and the drive state stays. -/
  | now (o : MoveOutcome)
  /-- PLAY from HOLDING: it completes DONE, and the drive becomes TRACKING (R115). -/
  | playOn
  /-- The move runs. -/
  | go
deriving DecidableEq, Repr

/-- The check that belongs to the kind, where the drive state lets the move run (R104, R125). -/
def State.kindCheck (s : State) (m : ActiveMove) (marked : Option Nat) : Readiness :=
  match m.kind with
  | .balance => if s.spc.state = .locked then .go else .now .notReady
  | .seekBlock => if s.pru.zones.inRange (m.arg.getD 0).toNat then .go else .now .badTarget
  | .resumeMark =>
    match marked with
    | none => .now .markLost
    | some b => if s.pru.zones.inRange b then .go else .now .badTarget
  | _ => .go

/-- The readiness check of R104, the drive state first. In the drive states that no grant meets (STARTING, MOVING,
STOPPING with no move active, and those that R141 excludes) it answers NOT_READY (DESIGN CHOICE,
notes/assumptions/16.md). -/
def State.readiness (s : State) (m : ActiveMove) (marked : Option Nat) : Readiness :=
  match s.dsv.drive with
  | .noDisc | .faulted => if m.kind = .stop then .now .done else .now .notReady
  | .idle =>
    match m.kind with
    | .stop => .now .done
    | .start | .park => .go
    | _ => .now .notReady
  | .tracking =>
    match m.kind with
    | .start | .play => .now .done
    | _ => s.kindCheck m marked
  | .holding =>
    match m.kind with
    | .start | .hold => .now .done
    | .play => .playOn
    | _ => s.kindCheck m marked
  | _ => .now .notReady

/-- The orders of a move's first phase, given at the grant (R103). HOLD gives none, so a settling close goes on watching
through its grant (R130; DEDUCED, notes/assumptions/38.md). -/
def State.firstPhase (s : State) (m : ActiveMove) (marked : Option Nat) : State :=
  match m.kind with
  | .start => if s.slc.homed then s.laserOn.startSearch else s.laserOn.startHoming
  | .stop | .park => s.startSpinDown
  | .play => s
  | .hold => { s with mve := { s.mve with phase := .revWait } }
  | .jump | .seekTrack =>
    if m.arg.getD 0 = 0 then s.completeMove .done none else s.moveBy (m.arg.getD 0)
  | .seekBlock => s.startSeek (m.arg.getD 0).toNat
  | .resumeMark => s.startSeek (marked.getD 0)
  | .balance =>
    ({ s with
        mve :=
          { s.mve with
            phase := .revWait, sumE := 0, sumF := 0, revsMeasured := 0, settling := false } } : State).trackOpen

/-- The steps of R103 at a grant, the readiness check, and the move's first orders. -/
def State.beginMove (s : State) (m : ActiveMove) (marked : Option Nat) : State :=
  let t :=
    { s with
      mve :=
        { s.mve with
          active := some m, elapsed := 0, corrections := 0, crossings := 0, closeTries := 0, timedOut := false,
          measured := none } }
  match t.readiness m marked with
  | .now o => t.completeAtGrant o
  | .playOn => t.completeMove .done none
  | .go =>
    let u := { t with mve := { t.mve with returnState := some t.dsv.drive } }
    (u.setDrive m.kind.driveDuring).firstPhase m marked

end Sys2Proof.Machine
end

