-- ==== Sys2Proof/Machine/Arbiter.lean ====
section
/-!
DEFINITION. The Pickup Arbiter (chapter 7): tickets, the freedom of the pickup, eligibility, the choice and the grant,
and the abort of the active move that the Arbiter orders (R128).
-/

namespace Sys2Proof.Machine

/-! ### Tickets (R136) -/

/-- The tickets that a port holds: those of its queue and, for Port D, of the urgent slot. -/
def State.heldTickets (s : State) (p : Port) : List Nat :=
  (s.queueOf p).map (·.ticket) ++
    match p with
    | .portP => []
    | .portD => s.arb.urgent.toList.map (·.ticket)

/-- The first value from a counter value on that is not held; at most 5 values are held, so 8 tries suffice. -/
def freeTicket (held : List Nat) : Nat → Nat → Nat
  | 0, c => c
  | n + 1, c => if held.contains c then freeTicket held n ((c + 1) % Config.ticketCount) else c

/-- The ticket a submission of a port takes. -/
def State.nextTicket (s : State) (p : Port) : Nat :=
  freeTicket (s.heldTickets p) Config.ticketCount ((s.pif p).ticket % Config.ticketCount)

/-! ### The choice (R141 to R145) -/

/-- The pickup is free for a grant (R141). -/
def State.pickupFree (s : State) : Bool :=
  s.mve.active.isNone && s.mve.holdJump = .none && s.mve.activity = .none && s.dsv.drive ≠ .recovering &&
    s.dsv.drive ≠ .powerHold

/-- The head of a port's queue where it is eligible: not while the port's store is in HOLD_OFF and holds 2 records
(R143). -/
def State.eligibleHead (s : State) (p : Port) : Option Entry :=
  if (s.pif p).mode = .holdOff ∧ (s.pif p).fill = 2 then none else (s.queueOf p).head?

/-- A candidate of the choice: its source, its entry, and the chain run after its grant. -/
structure Candidate where
  source : Source
  entry : Entry
  run : Nat
deriving DecidableEq, Repr

/-- The chain continuation of the choice, where step 2 of R144 names one. -/
def State.continuation (s : State) : Option Candidate :=
  if s.arb.run < Config.chainLimit then
    match s.arb.claim with
    | .none => none
    | .queueP =>
      if s.arb.policy = .deckStrong ∧ (s.eligibleHead .portD).isSome = true then none
      else (s.eligibleHead .portP).map (fun e => { source := .queueP, entry := e, run := s.arb.run + 1 })
    | .queueD => (s.eligibleHead .portD).map (fun e => { source := .queueD, entry := e, run := s.arb.run + 1 })
  else none

/-- The grant by policy, or of the single eligible head (R144 steps 3 and 4). -/
def State.byPolicy (s : State) : Option Candidate :=
  match s.eligibleHead .portP, s.eligibleHead .portD with
  | some p, some d =>
    if s.arb.policy = .playFirst then some { source := .queueP, entry := p, run := 0 }
    else some { source := .queueD, entry := d, run := 0 }
  | some p, none => some { source := .queueP, entry := p, run := 0 }
  | none, some d => some { source := .queueD, entry := d, run := 0 }
  | none, none => none

/-- The candidate that the choice names, in the four steps of R144. -/
def State.candidate (s : State) : Option Candidate :=
  match s.arb.urgentWaiting, s.arb.urgent with
  | true, some e => some { source := .urgent, entry := e, run := 0 }
  | _, _ =>
    match s.continuation with
    | some c => some c
    | none => s.byPolicy

/-! ### The grant (R147) -/

/-- The port whose entry a source grants. -/
def Source.port : Source → Port
  | .queueP => .portP
  | _ => .portD

/-- The kinds whose grant drops the anchor (R100). -/
def MoveKind.dropsAnchor : MoveKind → Bool
  | .play | .hold => false
  | _ => true

/-- What a grant does to the mark: none where it leaves it, otherwise whether the clearing raises MARK_LOST (R154). -/
def MoveKind.clearsMark (k : MoveKind) (p : Port) : Option Bool :=
  match p, k with
  | .portD, _ => some true
  | .portP, .start | .portP, .stop | .portP, .park | .portP, .balance => some true
  | .portP, .resumeMark => some false
  | .portP, _ => none

/-- The active move of a granted entry (R103). -/
def Candidate.move (c : Candidate) : ActiveMove :=
  { port := c.source.port, ticket := c.entry.ticket, kind := c.entry.kind, arg := c.entry.arg,
    urgent := decide (c.source = .urgent), chain := c.entry.chain }

/-- The Arbiter's actions at a grant (R147), less the hand-over: source, urgent waiting flag, chain claim and run,
the anchor and the mark. -/
def State.grantActions (s : State) (c : Candidate) : State :=
  let t :=
    { s with
      arb :=
        { s.arb with
          source := c.source
          urgentWaiting := if c.source = .urgent then false else s.arb.urgentWaiting
          claim := .none, run := c.run } }
  let u := if c.entry.kind.dropsAnchor then t.dropAnchor else t
  match c.entry.kind.clearsMark c.source.port with
  | some tell => u.clearMark tell
  | none => u

/-- A grant: the Arbiter's actions, and the entry handed to the Move Engine with the answer about the mark as it stood
(R147). -/
def State.grant (s : State) (c : Candidate) : State :=
  (s.grantActions c).beginMove c.move (s.arb.mark.map (·.block))

/-- One choice: a grant where the pickup is free and a candidate is named (R142, R144). -/
def State.chooseOnce (s : State) : Option State := if s.pickupFree then s.candidate.map s.grant else none

/-- Choices one after another within one event, while a granted move completes at its grant (R142). -/
def State.choose : Nat → State → State
  | 0, s => s
  | n + 1, s =>
    match s.chooseOnce with
    | some t => State.choose n t
    | none => s

/-- The entries that the Arbiter holds; each grant that completes at its grant takes one away. -/
def State.entriesHeld (s : State) : Nat :=
  s.arb.queueP.length + s.arb.queueD.length + s.arb.urgent.toList.length

/-- The Arbiter chooses, and chooses again until nothing more can be granted (R142). -/
def State.arbitrate (s : State) : State := State.choose s.entriesHeld s

/-! ### Abort by the Arbiter (R128) -/

/-- START, STOP and PARK, whose abort stops the mechanism (R128). -/
def MoveKind.stopsDrive : MoveKind → Bool
  | .start | .stop | .park => true
  | _ => false

/-- The settling close starts with the close command given at the abort (R128, R130). -/
def State.startSettling (s : State) : State :=
  if s.lensTaken then
    ({ s with mve := { s.mve with settling := true, settleTries := 1 } } : State).closeCommand
  else s.trackingLost

/-- The abort of the active move that the Arbiter orders (R128): the sled stops, the loops, laser and drive state go by
the kind, and the result, where one is formed, and the completion are handed on. `stopNext` says that the urgent move
about to be granted is a STOP or PARK, so that no close command is given. -/
def State.abortMove (s : State) (o : Option MoveOutcome) (stopNext : Bool) : State :=
  match s.mve.active with
  | none => s
  | some m =>
    let t := s.endMove.sledStop
    let u :=
      if m.kind.stopsDrive then (t.focusOpen.laserOff.brakeOrder).setDrive .idle
      else t.setDrive (s.mve.returnState.getD .tracking)
    let v :=
      match o with
      | some out => u.finishMove (some m) out none
      | none => u.arbComplete none m.chain
    if m.kind.stopsDrive || stopNext then v else v.startSettling

/-- A waiting urgent entry is a STOP or PARK (R128, R139). -/
def State.urgentStops (s : State) : Bool :=
  s.arb.urgentWaiting && (s.arb.urgent.map (fun e => e.kind = .stop || e.kind = .park)).getD false

/-- An urgent arrival preempts an active Port P move (R138, R139); the choice follows. -/
def State.preempt (s : State) : State :=
  if s.arb.source = .queueP then (s.abortMove (some .abortedUrgent) s.urgentStops).bump .preempt else s

/-- The active move belongs to a port (R149). -/
def State.ownsActive (s : State) (p : Port) : Bool :=
  match p with
  | .portP => s.arb.source = .queueP
  | .portD => s.arb.source = .queueD || s.arb.source = .urgent

/-- The entries of a port's queue that are not active (R149, R151). -/
def State.waiting (s : State) (p : Port) : List Entry :=
  match p, s.arb.source with
  | .portP, .queueP => s.arb.queueP.tail
  | .portD, .queueD => s.arb.queueD.tail
  | q, _ => s.queueOf q

/-- The entries of a port's queue that stay when the others are removed: the active head, if there is one. -/
def State.activeHead (s : State) (p : Port) : List Entry :=
  match p, s.arb.source with
  | .portP, .queueP => s.arb.queueP.take 1
  | .portD, .queueD => s.arb.queueD.take 1
  | _, _ => []

/-- The chain claim dropped where it names a port's queue (R149, R151). -/
def State.dropClaim (s : State) (p : Port) : State :=
  if (p = .portP ∧ s.arb.claim = .queueP) ∨ (p = .portD ∧ s.arb.claim = .queueD) then
    { s with arb := { s.arb with claim := .none } }
  else s

end Sys2Proof.Machine
end

