-- ==== Sys2Proof/Machine/Port.lean ====
section
/-!
DEFINITION. The Port Interface (chapter 10): the taking of a request frame and the four steps of its judgement
(R185, R186, R189, R190), and the layouts of the response payloads (R191, R195).
-/

namespace Sys2Proof.Machine

/-! ### The taking of a request (R186, R189) -/

/-- The ports on which a request is taken (R190). -/
inductive PortUse where
  | both | onlyP | onlyD
deriving DecidableEq, Repr

/-- The request is taken on a port (R190). -/
def PortUse.admits : PortUse → Port → Bool
  | .both, _ => true
  | .onlyP, .portP => true
  | .onlyD, .portD => true
  | _, _ => false

/-- The LEN byte is above 130 (R186). -/
def tooLong (f : Frame) : Bool := Config.maxLen < f.len.toNat

/-- The payload of the frame: LEN words; what follows them is disregarded (R185). -/
def payloadOf (f : Frame) : List Word := f.words.take f.len.toNat

/-- The frame's last byte has come in (R186). -/
def isComplete (f : Frame) : Bool := tooLong f || f.len.toNat ≤ f.words.length

/-- The port takes a request frame: RSTN is high, and no frame has begun in this select. A request that comes with the
select line released brings its own select and stands for the whole transaction (DESIGN CHOICE,
notes/assumptions/7.md). -/
def State.listens (s : State) (p : Port) : Bool :=
  !s.rstnLow && ((s.pif p).phase = .released || (s.pif p).phase = .awaiting)

/-- A port's phase once a request has been taken: the rest of the select carries the fillers and the response (R185). -/
def PortPhase.taken : PortPhase → PortPhase
  | .awaiting => .responding 0
  | ph => ph

/-- A port's phase after n bytes were clocked that are no request: while the part responds it shifts out as many bytes, and
those that come in are disregarded (R185). -/
def PortPhase.clocked (ph : PortPhase) (n : Nat) : PortPhase :=
  match ph with
  | .responding k => .responding (k + n)
  | ph => ph

/-- A port's phase once a part of a frame has come in. -/
def PortPhase.broken : PortPhase → PortPhase
  | .awaiting => .partialFrame
  | ph => ph

/-- The response of a taken request. -/
def State.respond (s : State) (p : Port) (r : Response) : State :=
  s.setPif p { s.pif p with phase := (s.pif p).phase.taken, response := some r }

/-- A part of a frame, which is not taken and changes nothing else (R186). -/
def State.partly (s : State) (p : Port) : State := s.setPif p { s.pif p with phase := (s.pif p).phase.broken }

/-- What the owner of a request's subject makes of it: the state with every effect of the taking, and the response. -/
abbrev Owner := Port → List Word → State → State × Response

/-- The bytes of a frame that the port does not take: disregarded, with their clocks shifting out the response where the
part responds (R185); nothing where RSTN is low (R193). -/
def State.shiftOut (s : State) (p : Port) (f : Frame) : State :=
  if s.rstnLow then s else s.setPif p { s.pif p with phase := (s.pif p).phase.clocked (2 + 2 * f.words.length) }

/-- The judgement of a complete frame by the port: the LEN byte above 130, the port, the length, and then the owner
(R189 steps 2 to 4). `need` is the length that the request must have. -/
def State.judgeRequest (s : State) (use : PortUse) (need : List Word → Option Nat) (owner : Owner) (p : Port)
    (f : Frame) : State × Response :=
  if tooLong f then (s, .refusal .badLength)
  else if !use.admits p then (s, .refusal .notThisPort)
  else if need (payloadOf f) ≠ some f.len.toNat then (s, .refusal .badLength)
  else owner p (payloadOf f) s

/-- A request frame at a port (R186): disregarded where the port does not listen, a partial request where its last byte
has not come in, and judged and answered otherwise. -/
def State.takeRequest (s : State) (use : PortUse) (need : List Word → Option Nat) (owner : Owner) (p : Port)
    (f : Frame) : State :=
  if !s.listens p then s.shiftOut p f
  else if isComplete f then
    (s.judgeRequest use need owner p f).1.respond p (s.judgeRequest use need owner p f).2
  else s.partly p

/-- A request of a fixed length (R195). -/
def exactly (n : Nat) (_ : List Word) : Option Nat := some n

/-- A request refused by its owner: no state of any block changes (R188). -/
def refuse (s : State) (c : Status) : State × Response := (s, .refusal c)

/-- A request answered OK without payload. -/
def answerOk (s : State) : State × Response := (s, .plain .ok)

/-- The status of a taken request whose values were clamped or not (R189). -/
def clampedStatus (clamped : Bool) : Status := if clamped then .clamped else .ok

/-- A block brought into 0..449,999 (R94, R152, R189). -/
def clampBlock (b : Nat) : Nat := min b Config.maxBlock

/-- The block lay outside 0..449,999. -/
def blockClamped (b : Nat) : Bool := Config.maxBlock < b

/-! ### Response payloads (R195) -/

/-- An entry word of a queue. -/
def Entry.word (e : Entry) (active : Bool) : Word :=
  bytesWord e.ticket (e.kind.code + 16 * flagNat e.chain + 32 * flagNat active)

/-- The four entry words of a queue, listed from the head; words beyond the count read 0. -/
def queueWords (q : List Entry) (headActive : Bool) : List Word :=
  let slot (n : Nat) : Word :=
    match q[n]? with
    | some e => e.word (headActive && n = 0)
    | none => 0
  [slot 0, slot 1, slot 2, slot 3]

/-- The urgent slot word. -/
def slotWord (slot : Option Entry) (active : Bool) : Word :=
  match slot with
  | none => 0
  | some e => bytesWord e.ticket (e.kind.code + 16 * flagNat e.chain + 32 * flagNat active + 64)

/-- The previous search FE: 8000h stands for absent. -/
def prevFeWord : Option Int → Word
  | none => 0x8000
  | some x => wordOf x

/-- The LOOPS group, as the last sample, tick or command has left the loops (R40; DEDUCED, notes/assumptions/8.md). -/
def State.loopsWords (s : State) : List Word :=
  [wordOf s.focus.state.code, wordOf s.focus.drive] ++ wordsOf s.focus.integ ++
    [wordOf s.focus.ePrev, wordOf s.focus.gains.code, flagWord s.focus.resume, wordOf s.focus.ramp.code,
      wordOf s.focus.sweeps, prevFeWord s.focus.prevFe] ++
    [wordOf s.track.state.code, wordOf s.track.drive] ++ wordsOf s.track.integ ++
    [wordOf s.track.ePrev, wordOf s.track.gains.code, flagWord s.track.resume, wordOf s.track.kick.code,
      wordOf s.track.jumpDir.code, wordOf s.track.closeTimer]

/-- The DETECTOR group. -/
def State.detectorWords (s : State) : List Word :=
  [wordOf s.dfe.a, wordOf s.dfe.b, wordOf s.dfe.c, wordOf s.dfe.d, wordOf s.dfe.e, wordOf s.dfe.f, wordOf s.dfe.rfe,
    wordOf s.dfe.ax, wordOf s.dfe.az, wordOf s.dfe.sum, wordOf s.dfe.fe, wordOf s.dfe.te, wordOf s.dfe.eDash,
    wordOf s.dfe.fDash, wordOf s.dfe.armed.code]

/-- The DISTURBANCE group. -/
def State.disturbanceWords (s : State) : List Word :=
  [wordOf s.dmn.defect.code, wordOf s.dmn.lowRun, wordOf s.dmn.goodRun, wordOf s.dmn.holdLength,
    flagWord s.dmn.window, wordOf s.dmn.remaining, wordOf s.dmn.slips, wordOf s.dmn.lossRun, wordOf s.dmn.overloadRun]

/-- The SPINDLE group. -/
def State.spindleWords (s : State) : List Word :=
  [wordOf s.spc.state.code, wordOf s.spc.dir.code, wordOf s.spc.duty, wordOf s.spc.da, wordOf s.spc.tm,
    wordOf s.spc.target, wordOf s.spc.inRun, wordOf s.spc.outRun, wordOf s.spc.edges]

/-- The SLED group. -/
def State.sledWords (s : State) : List Word :=
  [wordOf s.slc.state.code, wordOf s.slc.duty, flagWord s.slc.homed]

/-- The ARBITER group. -/
def State.arbiterWords (s : State) : List Word :=
  [bytesWord s.arb.queueP.length s.arb.queueD.length] ++ queueWords s.arb.queueP (s.arb.source = .queueP) ++
    queueWords s.arb.queueD (s.arb.source = .queueD) ++ [slotWord s.arb.urgent (s.arb.source = .urgent)] ++
    [wordOf s.arb.source.code, wordOf s.arb.claim.code, wordOf s.arb.run, wordOf s.arb.policy.code,
      flagWord s.arb.mark.isSome] ++
    wordsOf ((s.arb.mark.map (fun m => (m.block : Int))).getD 0) ++
    [wordOf ((s.arb.mark.map (·.track)).getD 0)]

/-- The DRIVE group; laser, LOWV state and permit read 1 for on, ASSERTED and granted (DEDUCED,
notes/assumptions/12.md). -/
def State.driveWords (s : State) : List Word :=
  [wordOf s.dsv.drive.code, wordOf s.dsv.clamp.code, flagWord s.dsv.laser, flagWord s.dsv.lowv, flagWord s.spc.permit,
    wordOf s.dsv.recovery.code, wordOf s.mve.phase.code, wordOf s.mve.holdJump.code]

/-- The PORT group of the requesting port. -/
def Pif.words (v : Pif) : List Word :=
  [wordOf v.fill, wordOf v.mode.code, wordOf v.dropped, wordOf v.ticket, v.mask.setWidth 16]

/-- A state group as the port's read returns it (R191). -/
def State.groupWords (s : State) (p : Port) : StateGroup → List Word
  | .loops => s.loopsWords
  | .detector => s.detectorWords
  | .disturbance => s.disturbanceWords
  | .spindle => s.spindleWords
  | .sled => s.sledWords
  | .arbiter => s.arbiterWords
  | .drive => s.driveWords
  | .port => (s.pif p).words

/-- The position record (R101). -/
def State.positionWords (s : State) : List Word :=
  [wordOf s.pru.trackIndex, bytesWord s.pru.run (flagNat s.pru.anchor.isSome + 2 * flagNat s.slc.homed)] ++
    wordsOf ((s.pru.anchor.map (fun a => (a.block : Int))).getD 0) ++
    wordsOf ((s.pru.anchor.map (fun a => (a.estimated : Int))).getD 0) ++ [wordOf s.pru.revs] ++
    wordsOf s.pru.zones.firstBlock ++ wordsOf s.pru.zones.endBlock

/-- A result record. -/
def Result.words (r : Result) : List Word :=
  [bytesWord r.ticket
      (portCode r.port + 2 * flagNat r.urgent + 4 * flagNat r.chained + 8 * flagNat r.anchorBlock.isSome +
        16 * flagNat r.last + 32 * flagNat r.measured.isSome),
    bytesWord r.kind.code r.outcome.code, wordOf r.trackIndex] ++
    wordsOf ((r.anchorBlock.map (fun b => (b : Int))).getD 0) ++
    [wordOf r.corrections, wordOf r.elapsed, wordOf ((r.measured.map (fun v => (v : Int))).getD 0)]

/-- The records of a store, OLDER first. -/
def Pif.records (v : Pif) : List Result := v.older.toList ++ v.newer.toList

/-- The GET_RESULTS payload. -/
def Pif.resultWords (v : Pif) : List Word := bytesWord v.fill v.dropped :: v.records.flatMap Result.words

/-- The fault record, or its absence, and the lost flag. -/
def Dsv.faultWords (d : Dsv) : List Word :=
  match d.record with
  | none => [bytesWord (2 * flagNat d.lost) 0, 0, 0, 0, 0]
  | some r =>
    [bytesWord (1 + 2 * flagNat d.lost + 4 * flagNat r.active.isSome) r.kind.code,
      bytesWord r.drive.code ((r.active.map (·.kind.code)).getD 0),
      bytesWord ((r.active.map (fun m => portCode m.port)).getD 0) ((r.active.map (·.ticket)).getD 0),
      wordOf r.trackIndex, wordOf r.period]

/-- The twelve views of a port, in the order of R180. -/
def State.viewWords (s : State) (p : Port) : List Word :=
  CounterId.order.map (fun c => wordOf (counterView (s.ctb.get c) ((s.pif p).baselines.get c)))

end Sys2Proof.Machine
end

