-- ==== Sys2Proof/Machine/Device.lean ====
section
/-!
DEFINITION. The requests of the two ports that reach the mechanism's blocks: the reads and the parameters (R191, R194),
the position record and its Zone Table (R91 to R98, R101), the deck report and the fault record (R158 to R160, R166),
and a frame whose CODE names no request (R189).
-/

namespace Sys2Proof.Machine

/-! ### Reads (R93, R101, R166, R191) -/

/-- GET_STATE (R191). -/
def ownGetState : Owner := fun p ws s =>
  match StateGroup.ofCode (wordAt ws 0).toNat with
  | none => refuse s .badValue
  | some g => (s, { status := .ok, payload := s.groupWords p g })

/-- GET_STATE (R191). -/
def execGetState (p : Port) (f : Frame) (s : State) : Host.Outcome State Fault Refusal :=
  .next (s.takeRequest .both (exactly 1) ownGetState p f)

/-- GET_POSITION (R101). -/
def ownGetPosition : Owner := fun _ _ s => (s, { status := .ok, payload := s.positionWords })

/-- GET_POSITION (R101). -/
def execGetPosition (p : Port) (f : Frame) (s : State) : Host.Outcome State Fault Refusal :=
  .next (s.takeRequest .both (exactly 0) ownGetPosition p f)

/-- GET_FAULT (R166). -/
def ownGetFault : Owner := fun _ _ s => (s, { status := .ok, payload := s.dsv.faultWords })

/-- GET_FAULT (R166). -/
def execGetFault (p : Port) (f : Frame) (s : State) : Host.Outcome State Fault Refusal :=
  .next (s.takeRequest .both (exactly 0) ownGetFault p f)

/-- GET_ZONES (R93). -/
def ownGetZones : Owner := fun _ _ s => (s, { status := .ok, payload := zoneWords s.pru.zones })

/-- GET_ZONES (R93). -/
def execGetZones (p : Port) (f : Frame) (s : State) : Host.Outcome State Fault Refusal :=
  .next (s.takeRequest .both (exactly 0) ownGetZones p f)

/-! ### Parameters (R71, R191, R194) -/

/-- GET_PARAM (R191). -/
def ownGetParam : Owner := fun _ ws s =>
  match ParamId.ofCode (wordAt ws 0).toNat with
  | none => refuse s .badValue
  | some q => (s, { status := .ok, payload := [wordAt ws 0, wordOf (s.prm.get q)] })

/-- GET_PARAM (R191). -/
def execGetParam (p : Port) (f : Frame) (s : State) : Host.Outcome State Fault Refusal :=
  .next (s.takeRequest .both (exactly 1) ownGetParam p f)

/-- A parameter's value word: signed where the parameter's range is signed (R191). -/
def ParamId.valueOf (q : ParamId) (w : Word) : Int := if q.signed then w.toInt else w.toNat

/-- The value is refused: an SF outside 1, 2, 4 (R191). -/
def ParamId.refuses (q : ParamId) (v : Int) : Bool := q = .sf && !(v = 1 || v = 2 || v = 4)

/-- An SF that changes takes a LOCKED spindle to LOCKING, with DA kept and the spin timer started at 0 (R71). -/
def State.relock (s : State) (changed : Bool) : State :=
  if changed ∧ s.spc.state = .locked then
    { s with spc := { s.spc with state := .locking, inRun := 0, outRun := 0, spinTimer := .started } }
  else s

/-- A parameter written, with what the write does at once: SF and KCLV compute the target period again (R63), and SF
acts on a LOCKED spindle (R71). -/
def State.writeParam (s : State) (q : ParamId) (v : Int) : State :=
  let t := { s with prm := s.prm.set q v }
  match q with
  | .sf => t.retarget.relock (s.prm.sf ≠ t.prm.sf)
  | .kclv => t.retarget
  | _ => t

/-- SET_PARAM (R191). -/
def ownSetParam : Owner := fun _ ws s =>
  match ParamId.ofCode (wordAt ws 0).toNat with
  | none => refuse s .badValue
  | some q =>
    let v := q.valueOf (wordAt ws 1)
    let c := clampI q.lo q.hi v
    if q.refuses v then refuse s .badValue
    else
      (s.writeParam q c,
        { status := clampedStatus (c ≠ v), payload := [wordAt ws 0, wordOf c] })

/-- SET_PARAM (R191). -/
def execSetParam (p : Port) (f : Frame) (s : State) : Host.Outcome State Fault Refusal :=
  .next (s.takeRequest .onlyD (exactly 2) ownSetParam p f)

/-! ### Address reports (R94 to R98) -/

/-- The active move is in an address-wait phase (R95, R98). -/
def State.inAddressWait (s : State) : Bool := s.mve.active.isSome && s.mve.phase = .addressWait

/-- Test 2: the drive state lets a report anchor the record (R95). -/
def State.reportDrive (s : State) : Bool :=
  match s.dsv.drive with
  | .tracking | .holding => true
  | .moving => s.inAddressWait
  | _ => false

/-- Test 5: the record is not anchored, or the track of the block lies within ANCHOR_TOL of the index (R95). -/
def State.agrees (s : State) (b : Nat) : Bool :=
  match s.pru.anchor, s.pru.zones.trackOf b with
  | none, _ => true
  | some _, some n => (n - s.pru.trackIndex).natAbs ≤ s.prm.anchorTol
  | some _, none => false

/-- The judgement of a report: 0 for accepted, otherwise the first test that failed (R95). -/
def State.reportTest (s : State) (good : Bool) (b : Nat) : Nat :=
  if !good then 1
  else if !s.reportDrive then 2
  else if s.track.state ≠ .closed then 3
  else if !s.pru.zones.inRange b then 4
  else if !s.agrees b then 5
  else 0

/-- The acceptance of a report, in the order of R96. -/
def State.acceptReport (s : State) (b : Nat) : State :=
  let t := s.setIndex ((s.pru.zones.trackOf b).getD s.pru.trackIndex)
  { t with
    pru :=
      { t.pru with
        anchor :=
          (t.pru.zones.startBlock t.pru.trackIndex).map (fun e => { block := b, estimated := e })
        revs := 0, run := 0 } }

/-- The rejection of a report by a test: counted, and by test 5 also a disagreement, the third of which drops the anchor
(R97). -/
def State.rejectReport (s : State) (test : Nat) : State :=
  let t := s.bump .anchorReject
  if test = 5 then
    if Config.disagreements ≤ t.pru.run + 1 then
      ({ t with pru := { t.pru with anchor := none, run := 0 } } : State).bump .anchorDrop
    else { t with pru := { t.pru with run := t.pru.run + 1 } }
  else t

/-- The judgement of a report carried out on the record (R96, R97). -/
def State.judgeReport (s : State) (good : Bool) (b : Nat) : State :=
  if s.reportTest good b = 0 then s.acceptReport b else s.rejectReport (s.reportTest good b)

/-- A report at the Position Record Unit, and after its judgement at a seek that waits for an address (R98), be the wait a
new one that an expiry has just begun (R124; DEDUCED, notes/assumptions/36.md). -/
def State.handleReport (s : State) (good : Bool) (b : Nat) : State :=
  (if s.inAddressWait then (s.judgeReport good b).seekReport good b else s.judgeReport good b).arbitrate

/-- ADDRESS_REPORT (R94 to R98): the response reflects the record as the judgement left it. -/
def ownAddressReport : Owner := fun _ ws s =>
  match qualityOfCode (wordAt ws 2).toNat with
  | none => refuse s .badValue
  | some good =>
    let b := clampBlock (dwordAt ws 0)
    let t := s.judgeReport good b
    (s.handleReport good b,
      { status := clampedStatus (blockClamped (dwordAt ws 0)),
        payload :=
          [wordOf (s.reportTest good b), wordOf t.pru.trackIndex,
            bytesWord t.pru.run (flagNat t.pru.anchor.isSome)] })

/-- ADDRESS_REPORT (R95). -/
def execAddressReport (p : Port) (f : Frame) (s : State) : Host.Outcome State Fault Refusal :=
  .next (s.takeRequest .onlyP (exactly 3) ownAddressReport p f)

/-! ### ZONE_SET (R91, R92) -/

/-- A new table in force: an anchor whose block it does not hold is dropped, and any other has its estimated block
formed again (R92). -/
def State.replaceZones (s : State) (z : ZoneTable) : State :=
  let t := { s with pru := { s.pru with zones := z } }
  match s.pru.anchor with
  | none => t
  | some a => if z.inRange a.block then t.formEstimate else t.dropAnchor

/-- ZONE_SET (R91, R92). -/
def ownZoneSet : Owner := fun _ ws s =>
  if (zoneTableOf ws).valid then answerOk (s.replaceZones (zoneTableOf ws)) else refuse s .badValue

/-- ZONE_SET (R91). -/
def execZoneSet (p : Port) (f : Frame) (s : State) : Host.Outcome State Fault Refusal :=
  .next (s.takeRequest .onlyP zoneSetLength ownZoneSet p f)

/-! ### Deck reports (R158 to R160) -/

/-- A report of CLAMPED: the permit is granted where LOWV is deasserted, and NO_DISC becomes IDLE (R158). -/
def State.deckClamped (s : State) : State :=
  if s.dsv.clamp = .clamped then s
  else
    let t := ({ s with dsv := { s.dsv with clamp := .clamped } } : State).grantPermit
    if s.dsv.drive = .noDisc then t.setDrive .idle else t

/-- The quiet path of an unclamp (R159). The Drive Supervisor gives the sled stop also with no move active (DEDUCED,
notes/assumptions/35.md). -/
def State.quietUnclamp (s : State) : State :=
  ((s.sledStop.endWork.setDrive .noDisc).finishMove s.mve.active .discReleased none).arbitrate

/-- The unclamp emergency, in the order of R160, with the Drive Supervisor's sled stop (DEDUCED,
notes/assumptions/35.md). -/
def State.unclampEmergency (s : State) : State :=
  let t := (s.latchFault .unclampSpinning).focusOpen.laserOff.sledStop
  ((t.endWork.noRecovery.setDrive .faulted).finishMove s.mve.active .discReleased none).arbitrate

/-- What a report of UNCLAMPED or LOADING leads to (R159). -/
inductive UnclampAction where
  | none | quiet | emergency
deriving DecidableEq, Repr

/-- The action by the drive state, the laser and the spindle state that stand at the arrival (R159). -/
def State.unclampAction (s : State) : UnclampAction :=
  match s.dsv.drive with
  | .noDisc | .powerHold => .none
  | .faulted => if s.spc.state = .stopped then .none else .emergency
  | .idle | .stopping => if s.spc.state = .stopped ∧ s.dsv.laser = false then .quiet else .emergency
  | _ => .emergency

/-- A report of UNCLAMPED or LOADING: the permit withdrawn, and the action of the table; the anchor and the mark go in
every case (R100, R154, R159). -/
def State.deckUnclamped (s : State) (c : Clamp) : State :=
  let t := ({ s with dsv := { s.dsv with clamp := c } } : State).withdrawGranted
  match s.unclampAction with
  | .none => t.dropAnchor.clearMark true
  | .quiet => t.quietUnclamp
  | .emergency => t.unclampEmergency

/-- DECK_REPORT (R158). -/
def ownDeckReport : Owner := fun _ ws s =>
  match Clamp.ofCode (wordAt ws 0).toNat with
  | none => refuse s .badValue
  | some .clamped => answerOk (s.raise .portP .deck).deckClamped
  | some c => answerOk ((s.raise .portP .deck).deckUnclamped c)

/-- DECK_REPORT (R158). -/
def execDeckReport (p : Port) (f : Frame) (s : State) : Host.Outcome State Fault Refusal :=
  .next (s.takeRequest .onlyD (exactly 1) ownDeckReport p f)

/-! ### CLEAR_FAULT (R166) -/

/-- A latched record and the lost flag cleared, and a FAULTED drive to IDLE or NO_DISC (R166). -/
def State.clearRecord (s : State) : State :=
  match s.dsv.record with
  | none => s
  | some _ =>
    let t := { s with dsv := { s.dsv with record := none, lost := false } }
    if s.dsv.drive = .faulted then t.setDrive (if s.dsv.clamp = .clamped then .idle else .noDisc) else t

/-- CLEAR_FAULT (R166). -/
def ownClearFault : Owner := fun _ _ s => answerOk s.clearRecord

/-- CLEAR_FAULT (R166). -/
def execClearFault (p : Port) (f : Frame) (s : State) : Host.Outcome State Fault Refusal :=
  .next (s.takeRequest .both (exactly 0) ownClearFault p f)

/-! ### A CODE that names no request (R189) -/

/-- A request that names nothing has no owner: it is refused with UNKNOWN (R189 step 1). -/
def ownUnknown : Owner := fun _ _ s => refuse s .unknown

/-- UNKNOWN_CODE_REQUEST (R189): UNKNOWN, whatever the port and the length, and BAD_LENGTH where LEN is above 130. A
code that names a request is not this command (DESIGN CHOICE, notes/assumptions/25.md). -/
def execUnknownCodeRequest (p : Port) (code : Byte) (f : Frame) (s : State) : Host.Outcome State Fault Refusal :=
  .next
    (if knownCode code then s
    else s.takeRequest .both (fun _ => some f.len.toNat) ownUnknown p f)

end Sys2Proof.Machine
end

