-- ==== Sys2Proof/Machine/Inputs.lean ====
section
/-!
DEFINITION. The commands that the input lines give: the Hall edge with its revolution event (chapter 4), the HOME switch
(R76, R78), the supply-low input (R167, R168), reset and power-on (R193), and the select lines (R186).
-/

namespace Sys2Proof.Machine

/-! ### Judgement of a Hall edge (R66 to R74) -/

/-- The spindle error of an edge (R67). -/
def Spc.error (c : Spc) : Int := (c.tm : Int) - c.target

/-- The edge timer latched into Tm and returned to 0, and the silence timer at 0, `us` microseconds after the timer was
last brought up to date (R61). -/
def Spc.latch (c : Spc) (us : Nat) : Spc :=
  { c with tm := satN Config.max16 (c.edgeTimer + us), edgeTimer := 0, silence := 0 }

/-- The capture limit T + floor(T / 4) (R66). -/
def Spc.captureLimit (c : Spc) : Nat := c.target + c.target / 4

/-- The lock window (R68). -/
def Spc.lockWindow (c : Spc) (lockWin : Nat) : Nat := c.target * lockWin / 256

/-- The wide window, in which a locked spindle keeps its lock (R69). -/
def Spc.wideWindow (c : Spc) (lockWin : Nat) : Nat := c.target * lockWin / 128

/-- The duty accumulator's update (R67). -/
def Spc.integrate (c : Spc) (ksi : Nat) : Spc :=
  let da := (clampI 0 Config.max16 (c.da + roundAway (c.error * ksi) 64)).toNat
  { c with da := da, duty := da / 256, dir := .fwd }

/-- An edge in ACCEL (R66). -/
def Spc.judgeAccel (c : Spc) : Spc :=
  if c.tm ≤ c.captureLimit then
    { c with state := .locking, da := Config.captureDuty, duty := 255, inRun := 0, outRun := 0 }
  else c

/-- An edge in LOCKING after the duty's update (R68). -/
def Spc.judgeLocking (c : Spc) (lockWin : Nat) : Spc :=
  if c.error.natAbs ≤ c.lockWindow lockWin then
    if Config.lockEdges ≤ c.inRun + 1 then
      { c with state := .locked, inRun := 0, outRun := 0, spinTimer := c.spinTimer.stop }
    else { c with inRun := c.inRun + 1 }
  else { c with inRun := 0 }

/-- An edge in LOCKED after the duty's update (R69). -/
def Spc.judgeLocked (c : Spc) (lockWin : Nat) : Spc :=
  if c.wideWindow lockWin < c.error.natAbs then
    if Config.unlockEdges ≤ c.outRun + 1 then
      { c with state := .locking, inRun := 0, outRun := 0, spinTimer := .started }
    else { c with outRun := c.outRun + 1 }
  else { c with outRun := 0 }

/-- The edge judged in the spindle state that it finds (R66 to R69, R72 to R74). -/
def Spc.judge (c : Spc) (m : Params) : Spc :=
  match c.state with
  | .stopped => c.rest .rundown
  | .accel => c.judgeAccel
  | .locking => (c.integrate m.ksi).judgeLocking m.lockWin
  | .locked => (c.integrate m.ksi).judgeLocked m.lockWin
  | .braking => if m.brakeEnd ≤ c.tm then c.rest .rundown else c
  | .rundown | .coast => c

/-- What the judgement of an edge reports: "spindle locked" to the Move Engine (R68), or a loss of lock with its count
and its notice (R69). -/
def State.reportEdge (s : State) (before : SpindleState) : State :=
  match before, s.spc.state with
  | .locking, .locked => s.onSpindleLocked
  | .locked, .locking => (s.bump .spinUnlock).raiseBoth .spin
  | _, _ => s

/-! ### Revolution event (R62) -/

/-- The drive states in which the spiral advances the index (R85). -/
def State.spirals (s : State) : Bool := s.track.state.follows && s.dsv.drive.settled

/-- The Position Record Unit at a revolution event: the spiral advance, and the revolutions since anchor (R85). -/
def State.pruRevolution (s : State) : State :=
  let t := if s.spirals then s.moveIndex 1 else s
  if t.pru.anchor.isSome then
    { t with pru := { t.pru with revs := satN Config.max16 (t.pru.revs + 1) } }
  else t

/-- The mean of a revolution's tracking drive (R81). -/
def Slc.mean (c : Slc) : Int := roundAway c.followSum c.followCount

/-- The Sled Controller at a revolution event: the nudge, and the sums returned to 0 (R81). -/
def State.slcRevolution (s : State) : State :=
  if s.slc.state = .trackingFollow then
    let c := { s.slc with followSum := 0, followCount := 0 }
    if 0 < s.slc.followCount ∧ s.prm.followLevel ≤ s.slc.mean.natAbs then
      { s with
        slc :=
          { c with
            duty := s.limitedDuty (s.slc.mean.sign * s.prm.followDuty), nudgeTimer := .started,
            nudgeLength := s.prm.followMs } }
    else { s with slc := c }
  else s

/-- The revolution event at its four users (R62). The Position Record Unit is taken before the Move Engine, so that a
holding jump does not suppress the advance (R85). -/
def State.revolution (s : State) : State :=
  let t := s.pruRevolution
  ({ t with dmn := { t.dmn with slips := 0 } } : State).slcRevolution.mveRevolution

/-- The edge counted, with a revolution event on every sixth (R62). -/
def State.countEdge (s : State) : State :=
  if Config.edgesPerRevolution ≤ s.spc.edges + 1 then
    ({ s with spc := { s.spc with edges := 0 } } : State).revolution
  else { s with spc := { s.spc with edges := s.spc.edges + 1 } }

/-- A Hall edge latched and judged, with its reports (R61). -/
def State.judgeEdge (s : State) (us : Nat) : State :=
  let t := ({ s with spc := s.spc.latch us } : State).retarget
  ({ t with spc := t.spc.judge t.prm } : State).reportEdge t.spc.state

/-- HALL_EDGE (R61, R62). While RSTN is low no Hall edge is taken. -/
def execHallEdge (elapsedUs : Nat) (s : State) : Host.Outcome State Fault Refusal :=
  .next (if s.rstnLow then s else (s.judgeEdge elapsedUs).countEdge.arbitrate)

/-! ### HOME switch (R76, R78) -/

/-- HOME becomes active: homing completes, or a negative duty becomes 0 (R76, R78). -/
def State.homeReached (s : State) : State :=
  if s.slc.state = .homing then s.homingComplete.onSledHomed
  else { s with slc := { s.slc with duty := max 0 s.slc.duty } }

/-- HOME_SWITCH_CHANGE (R76, R78): a change to active acts; a change to inactive changes no sled state; a command that
changes no level is no event (DEDUCED, notes/assumptions/5.md). While RSTN is low the level alone is followed (DEDUCED,
notes/assumptions/21.md). -/
def execHomeSwitchChange (active : Bool) (s : State) : Host.Outcome State Fault Refusal :=
  let t := { s with homePin := active }
  .next (if active && !s.homePin && !s.rstnLow then t.homeReached.arbitrate else t)

/-! ### Supply low (R167, R168) -/

/-- A LOWV assertion event, in the order of R167; the result of the move it ends is formed after its steps (R106). -/
def State.lowvEvent (s : State) : State :=
  let t := ({ s with dsv := { s.dsv with lowv := true } } : State).withdrawPermit
  let u := t.focusOpen.laserOff.sledStop.endWork.noRecovery
  let v := (u.dropAnchor.clearMark true).setDrive .powerHold
  (v.finishMove s.mve.active .powerDip none).arbitrate

/-- LOWV_ASSERTION (R167). -/
def execLowvAssertion (s : State) : Host.Outcome State Fault Refusal :=
  let t := { s with lowvPin := true }
  .next (if !s.lowvPin && !s.rstnLow then t.lowvEvent else t)

/-- The drive state after a LOWV release (R168). -/
def Dsv.afterRelease (d : Dsv) : DriveState :=
  if d.record.isSome then .faulted else if d.clamp = .clamped then .idle else .noDisc

/-- A LOWV release event (R168). -/
def State.releaseEvent (s : State) : State :=
  let t := ({ s with dsv := { s.dsv with lowv := false } } : State).grantPermit
  (t.setDrive s.dsv.afterRelease).arbitrate

/-- LOWV_RELEASE (R168). -/
def execLowvRelease (s : State) : Host.Outcome State Fault Refusal :=
  let t := { s with lowvPin := false }
  .next (if s.lowvPin && !s.rstnLow then t.releaseEvent else t)

/-! ### Reset and power-on (R193) -/

/-- A port's phase once reset has fallen: a transaction in progress is discarded, and an asserted select is disregarded
until it is released (R193). -/
def PortPhase.inReset : PortPhase → PortPhase
  | .released => .released
  | _ => .disregarded

/-- Every block at its after-reset values; the levels of the lines and the queue of commands stay (R193). -/
def State.afterReset (s : State) (low : Bool) : State :=
  { State.reset with
    rstnLow := low, lowvPin := s.lowvPin, homePin := s.homePin,
    pifP := { Pif.reset with phase := s.pifP.phase.inReset },
    pifD := { Pif.reset with phase := s.pifD.phase.inReset },
    pending := s.pending }

/-- RSTN_ASSERTED (R193): the part is held in reset. -/
def execRstnAsserted (s : State) : Host.Outcome State Fault Refusal := .next (s.afterReset true)

/-- The release of reset: the after-reset values, and a LOWV input that is asserted is taken as an assertion
(R170, R193). -/
def State.outOfReset (s : State) : State :=
  let t := s.afterReset false
  if s.lowvPin then t.lowvEvent else t

/-- RSTN_RELEASED (R193). RSTN that is already high is not released (DEDUCED, notes/assumptions/5.md). -/
def execRstnReleased (s : State) : Host.Outcome State Fault Refusal := .next (if s.rstnLow then s.outOfReset else s)

/-- POWER_ON (R193): as a release of RSTN; with RSTN held low the part stays in reset (DESIGN CHOICE,
notes/assumptions/20.md). -/
def execPowerOn (s : State) : Host.Outcome State Fault Refusal :=
  .next (if s.rstnLow then s.afterReset true else s.outOfReset)

/-! ### Select lines (R186) -/

/-- A port's phase after its select line was asserted: a new request frame, and disregarded while RSTN is low
(R186, R193). -/
def PortPhase.asserted (ph : PortPhase) (low : Bool) : PortPhase :=
  match ph with
  | .released => if low then .disregarded else .awaiting
  | _ => ph

/-- A port whose select line is released: a partial request is discarded, and so is a response of which a part is unsent
(R186). -/
def Pif.deselected (v : Pif) : Pif :=
  { v with phase := .released, response := if v.unsent then none else v.response }

/-- SELECT_CHANGE (R186): an assertion begins a new request frame; a release ends the transaction. -/
def execSelectChange (p : Port) (asserted : Bool) (s : State) : Host.Outcome State Fault Refusal :=
  .next
    (s.setPif p
      (if asserted then { s.pif p with phase := (s.pif p).phase.asserted s.rstnLow } else (s.pif p).deselected))

end Sys2Proof.Machine
end

