-- ==== Sys2Proof/Machine/Requests.lean ====
section
/-!
DEFINITION. The requests of the two ports that reach the Pickup Arbiter and the Port Interfaces: SUBMIT, FLUSH,
RESET_PORT, SET_POLICY, MARK and UNMARK (chapter 7), and the results, notices and counters (chapter 9).
-/

namespace Sys2Proof.Machine

/-! ### SUBMIT (R136 to R139) -/

/-- The range of a kind's argument; none for a kind that has none (R137, step 4). -/
def MoveKind.argRange : MoveKind → Option (Int × Int)
  | .jump => some (-64, 64)
  | .seekTrack => some (-22000, 22000)
  | .seekBlock => some (0, 449999)
  | _ => none

/-- The argument of a submission, clamped; none for a kind that has none (R137, step 4). -/
def MoveKind.argOf (k : MoveKind) (x : Int) : Option Int := k.argRange.map (fun r => clampI r.1 r.2 x)

/-- The argument lay outside its range (R137, step 4). -/
def MoveKind.argClamped (k : MoveKind) (x : Int) : Bool := k.argRange.any (fun r => x < r.1 || r.2 < x)

/-- The kinds of an urgent submission (R137, step 3). -/
def MoveKind.urgentKind : MoveKind → Bool
  | .stop | .park | .hold => true
  | _ => false

/-- A submission as its words give it (R195). -/
structure Submission where
  kind : MoveKind
  arg : Int
  chain : Bool
  urgent : Bool
deriving DecidableEq, Repr

/-- The submission that a payload carries; none where the kind lies outside its set (R137 step 1, R195). -/
def submissionOf (ws : List Word) : Option Submission :=
  (MoveKind.ofCode (Word.hi (wordAt ws 0)).toNat).map (fun k =>
    { kind := k, arg := signedDwordAt ws 1, chain := (wordAt ws 0).getLsbD 0, urgent := (wordAt ws 0).getLsbD 1 })

/-- The refusal of a submission, if any: steps 2, 3 and 5 of R137. -/
def State.submitRefusal (s : State) (p : Port) (x : Submission) : Option Status :=
  if (p = .portD ∧ x.kind = .resumeMark) ∨ (p = .portP ∧ x.urgent = true) then some .notThisPort
  else if x.urgent = true ∧ x.kind.urgentKind = false then some .badValue
  else if x.urgent then if s.arb.urgent.isSome then some .slotBusy else none
  else if Config.queueDepth ≤ (s.queueOf p).length then some .queueFull
  else none

/-- The entry of an accepted submission (R136). -/
def State.entryOf (s : State) (p : Port) (x : Submission) : Entry :=
  { ticket := s.nextTicket p, kind := x.kind, arg := x.kind.argOf x.arg, chain := x.chain }

/-- The entry taken in: the ticket counter advances beyond its ticket, and it joins its queue or the urgent slot
(R136, R137 step 6, R138). -/
def State.enqueue (s : State) (p : Port) (x : Submission) : State :=
  let e := s.entryOf p x
  let t := s.setPif p { s.pif p with ticket := (e.ticket + 1) % Config.ticketCount }
  if x.urgent then { t with arb := { t.arb with urgent := some e, urgentWaiting := true } }
  else t.setQueue p (t.queueOf p ++ [e])

/-- An accepted submission with every effect of its arrival: the preemption that an urgent one makes, and the choice
(R138, R139, R142). -/
def State.acceptSubmission (s : State) (p : Port) (x : Submission) : State :=
  let t := s.enqueue p x
  (if x.urgent then t.preempt else t).arbitrate

/-- SUBMIT at the Pickup Arbiter (R137); the response is formed after every effect of the arrival. -/
def ownSubmit : Owner := fun p ws s =>
  match submissionOf ws with
  | none => refuse s .badValue
  | some x =>
    match s.submitRefusal p x with
    | some c => refuse s c
    | none =>
      let t := s.acceptSubmission p x
      (t,
        { status := .accepted,
          payload := [bytesWord (s.nextTicket p) (t.queueOf p).length, flagWord (x.kind.argClamped x.arg)] })

/-- SUBMIT (R137). -/
def execSubmit (p : Port) (f : Frame) (s : State) : Host.Outcome State Fault Refusal :=
  .next (s.takeRequest .both (exactly 3) ownSubmit p f)

/-! ### FLUSH (R149) -/

/-- Every entry of a port's queue that is not active leaves it (R149 step 1, R151 step 1). -/
def State.removeWaiting (s : State) (p : Port) : State := s.setQueue p (s.activeHead p)

/-- An abort of the requesting port's active move, where it has one (R149 step 2, R151 step 2). -/
def State.abortOwn (s : State) (p : Port) (o : Option MoveOutcome) (stopNext : Bool) : State :=
  if s.ownsActive p then s.abortMove o stopNext else s

/-- FLUSH at the Pickup Arbiter, less its choice, in the order of R149. A waiting urgent STOP or PARK is about to be
granted at the abort, so that no close command is given there (R128; DEDUCED, notes/assumptions/33.md). -/
def State.flushSteps (s : State) (p : Port) (abort : Bool) : State :=
  let t := s.removeWaiting p
  let u := if abort then t.abortOwn p (some .abortedFlush) t.urgentStops else t
  let v := u.dropClaim p
  if (s.queueOf p).length = Config.queueDepth ∧ (v.queueOf p).length < Config.queueDepth then v.raise p .qspace
  else v

/-- FLUSH at the Pickup Arbiter (R149): the oldest entry removed, and how many were. -/
def ownFlush : Owner := fun p ws s =>
  let removed := s.waiting p
  ((s.flushSteps p ((wordAt ws 0).getLsbD 0)).arbitrate,
    { status := .ok, payload := [bytesWord ((removed.head?.map (·.ticket)).getD 0) removed.length] })

/-- FLUSH (R149). -/
def execFlush (p : Port) (f : Frame) (s : State) : Host.Outcome State Fault Refusal :=
  .next (s.takeRequest .both (exactly 1) ownFlush p f)

/-! ### RESET_PORT (R151, R183, R192) -/

/-- A waiting urgent entry leaves the slot at a reset of Port D (R151 step 3). -/
def State.removeUrgent (s : State) (p : Port) : State :=
  if p = .portD ∧ s.arb.urgentWaiting = true then
    { s with arb := { s.arb with urgent := none, urgentWaiting := false } }
  else s

/-- The steps of the Pickup Arbiter before the choice (R151 steps 1 to 5). The urgent entry that Port D's reset removes
is not about to be granted at the abort (R128). -/
def State.resetArb (s : State) (p : Port) : State :=
  let t := s.removeWaiting p
  let u := (t.abortOwn p none (p = .portP && t.urgentStops)).removeUrgent p
  let v := u.dropClaim p
  if p = .portP then v.clearMark false else v

/-- The steps of the Port Interface (R183). -/
def State.resetPif (s : State) (p : Port) : State :=
  s.setPif p
    { s.pif p with
      older := none, newer := none, dropped := 0, mode := .holdOff, flags := 0, mask := 0, baselines := s.ctb,
      ticket := 0 }

/-- RESET_PORT (R192). -/
def ownResetPort : Owner := fun p _ s => answerOk ((s.resetArb p).resetPif p).arbitrate

/-- RESET_PORT (R192). -/
def execResetPort (p : Port) (f : Frame) (s : State) : Host.Outcome State Fault Refusal :=
  .next (s.takeRequest .both (exactly 0) ownResetPort p f)

/-! ### Policy and mark (R146, R152, R153) -/

/-- SET_POLICY at the Pickup Arbiter (R146). -/
def ownSetPolicy : Owner := fun _ ws s =>
  match Policy.ofCode (wordAt ws 0).toNat with
  | none => refuse s .badValue
  | some v => answerOk ({ s with arb := { s.arb with policy := v } } : State).arbitrate

/-- SET_POLICY (R146). -/
def execSetPolicy (p : Port) (f : Frame) (s : State) : Host.Outcome State Fault Refusal :=
  .next (s.takeRequest .onlyD (exactly 1) ownSetPolicy p f)

/-- A track lies within ANCHOR_TOL of the track index (R95 test 5, R152). -/
def State.withinTol (s : State) (n : Int) : Bool := (n - s.pru.trackIndex).natAbs ≤ s.prm.anchorTol

/-- The mark that a block would set: the record is anchored, the block lies in the table's range, and its track within
ANCHOR_TOL of the index (R152). -/
def State.markFor (s : State) (b : Nat) : Option Mark :=
  match s.pru.anchor, s.pru.zones.trackOf b with
  | some _, some n => if s.withinTol n then some { block := b, track := n } else none
  | _, _ => none

/-- MARK at the Pickup Arbiter (R152). -/
def ownMark : Owner := fun _ ws s =>
  match s.markFor (clampBlock (dwordAt ws 0)) with
  | none => refuse s .notReady
  | some m =>
    ({ s with arb := { s.arb with mark := some m } },
      { status := clampedStatus (blockClamped (dwordAt ws 0)), payload := wordsOf m.block ++ [wordOf m.track] })

/-- MARK (R152). -/
def execMark (p : Port) (f : Frame) (s : State) : Host.Outcome State Fault Refusal :=
  .next (s.takeRequest .onlyP (exactly 2) ownMark p f)

/-- UNMARK at the Pickup Arbiter (R153). -/
def ownUnmark : Owner := fun _ _ s => answerOk (s.clearMark false)

/-- UNMARK (R153). -/
def execUnmark (p : Port) (f : Frame) (s : State) : Host.Outcome State Fault Refusal :=
  .next (s.takeRequest .onlyP (exactly 0) ownUnmark p f)

/-! ### Results (R174, R175) -/

/-- The store of a port emptied, with the dropped count 0 (R175). -/
def State.emptyStore (s : State) (p : Port) : State :=
  s.setPif p { s.pif p with older := none, newer := none, dropped := 0 }

/-- GET_RESULTS (R175): a full store in HOLD_OFF that is emptied lets the Arbiter choose. -/
def ownGetResults : Owner := fun p _ s =>
  let t := s.emptyStore p
  (if (s.pif p).mode = .holdOff ∧ (s.pif p).fill = 2 then t.arbitrate else t,
    { status := .ok, payload := (s.pif p).resultWords })

/-- GET_RESULTS (R175). -/
def execGetResults (p : Port) (f : Frame) (s : State) : Host.Outcome State Fault Refusal :=
  .next (s.takeRequest .both (exactly 0) ownGetResults p f)

/-- SET_PORT_MODE (R174): a change to OVERWRITE lets the Arbiter choose. -/
def ownSetPortMode : Owner := fun p ws s =>
  match StoreMode.ofCode (wordAt ws 0).toNat with
  | none => refuse s .badValue
  | some v =>
    let t := s.setPif p { s.pif p with mode := v }
    answerOk (if v = .overwrite then t.arbitrate else t)

/-- SET_PORT_MODE (R174). -/
def execSetPortMode (p : Port) (f : Frame) (s : State) : Host.Outcome State Fault Refusal :=
  .next (s.takeRequest .both (exactly 1) ownSetPortMode p f)

/-! ### Notices (R178, R179) -/

/-- GET_NOTICES (R179): every flag returned as set becomes clear. -/
def ownGetNotices : Owner := fun p _ s =>
  (s.setPif p { s.pif p with flags := 0 }, { status := .ok, payload := [(s.pif p).flags.setWidth 16] })

/-- GET_NOTICES (R179). -/
def execGetNotices (p : Port) (f : Frame) (s : State) : Host.Outcome State Fault Refusal :=
  .next (s.takeRequest .both (exactly 0) ownGetNotices p f)

/-- SET_NOTICE_MASK (R178): bits to which the mask gives no meaning are disregarded (R189). -/
def ownSetNoticeMask : Owner := fun p ws s =>
  answerOk (s.setPif p { s.pif p with mask := (wordAt ws 0).setWidth 12 })

/-- SET_NOTICE_MASK (R178). -/
def execSetNoticeMask (p : Port) (f : Frame) (s : State) : Host.Outcome State Fault Refusal :=
  .next (s.takeRequest .both (exactly 1) ownSetNoticeMask p f)

/-! ### Counters (R181) -/

/-- GET_COUNTERS (R181): with clear set, the port's baselines become the counters' values. -/
def ownGetCounters : Owner := fun p ws s =>
  (if (wordAt ws 0).getLsbD 0 then s.setPif p { s.pif p with baselines := s.ctb } else s,
    { status := .ok, payload := s.viewWords p })

/-- GET_COUNTERS (R181). -/
def execGetCounters (p : Port) (f : Frame) (s : State) : Host.Outcome State Fault Refusal :=
  .next (s.takeRequest .both (exactly 1) ownGetCounters p f)

end Sys2Proof.Machine
end

