-- ==== Sys2Proof/Machine/Samples.lean ====
section
/-!
DEFINITION. The servo sample event (R1): the DFE stage with the crossing users (chapter 1), the LPR stage with the sled's
following (chapter 2, R80), the DMN stage (chapter 3), and the three commands of the opcode table that are such an event.
-/

namespace Sys2Proof.Machine

/-! ### DFE stage -/

/-- An unsigned input converted; a value beyond the span converts to the nearer end code (R2). -/
def convertU (x : Int) : Nat := (clampI 0 4095 x).toNat

/-- An acceleration converted (R2). -/
def convertA (x : Int) : Int := clampI (-512) 511 x

/-- A difference over its sum times 4096, rounded half away from zero; 0 below the floor and where the sum is 0
(R6, R9). -/
def normalized (diff : Int) (total floor : Nat) : Int :=
  if floor ≤ total ∧ 0 < total then roundAway (diff * 4096) total else 0

/-- The focus error from the four offset-free quadrants (R5 to R7). -/
def focusError (m : Params) (a b c d : Nat) : Int :=
  clampI (-4096) 4095 (normalized ((a + c : Nat) - (b + d : Nat) : Int) (a + b + c + d) m.sumFloor + m.fofs)

/-- The balanced far-side value F'' (R8). -/
def balancedF (m : Params) (f : Nat) : Nat := (f * m.tbal + 128) / 256

/-- The tracking error from the two offset-free side spots (R8 to R10). -/
def trackError (m : Params) (e f : Nat) : Int :=
  clampI (-4096) 4095
    (normalized ((e : Int) - (balancedF m f : Int)) (e + balancedF m f) m.sideFloor + m.tofs)

/-- The conversion of the nine inputs and the values derived from them (R2 to R12); the armed side is not touched
here. -/
def Dfe.sample (v : Dfe) (m : Params) (x : SampleInputs) : Dfe :=
  let a := convertU x.a
  let b := convertU x.b
  let c := convertU x.c
  let d := convertU x.d
  let e := convertU x.e
  let f := convertU x.f
  { v with
    a := a, b := b, c := c, d := d, e := e, f := f, rfe := convertU x.rfe, ax := convertA x.ax, az := convertA x.az,
    sum := (a - m.ofsA) + (b - m.ofsB) + (c - m.ofsC) + (d - m.ofsD)
    fe := focusError m (a - m.ofsA) (b - m.ofsB) (c - m.ofsC) (d - m.ofsD)
    te := trackError m (e - m.ofsE) (f - m.ofsF)
    eDash := e - m.ofsE, fDash := f - m.ofsF }

/-- The crossing detector's judgement of a TE: the armed side after it, and the crossing event's direction if one is
emitted (R14). -/
def judgeCrossing (armed : ArmedSide) (te : Int) (level : Nat) : ArmedSide × Option Dir :=
  if (level : Int) ≤ te then (.high, if armed = .low then some .inward else none)
  else if te ≤ -(level : Int) then (.low, if armed = .high then some .outward else none)
  else (armed, none)

/-- The DFE stage (R1, R2, R14): the converted state, with the armed side after the judgement. -/
def State.dfeStage (s : State) (x : SampleInputs) : State :=
  let v := s.dfe.sample s.prm x
  { s with dfe := { v with armed := (judgeCrossing s.dfe.armed v.te s.prm.xingLevel).1 } }

/-- The crossing event that the DFE stage emits, if any (R14). -/
def State.crossingOf (s : State) (x : SampleInputs) : Option Dir :=
  (judgeCrossing s.dfe.armed (s.dfe.sample s.prm x).te s.prm.xingLevel).2

/-! ### Crossing users (R13, R16) -/

/-- A slip (R52, R53): counted, told to both ports, the anchor dropped, the mark cleared, and counted toward a burst,
which reports "tracking lost". -/
def State.slip (s : State) : State :=
  let t := ((s.bump .slip).raiseBoth .slip).dropAnchor.clearMark true
  let n := s.dmn.slips + 1
  if s.prm.slipBurst ≤ n then
    (({ t with dmn := { t.dmn with slips := 0 } } : State).bump .slipBursts).trackingLost
  else { t with dmn := { t.dmn with slips := n } }

/-- A crossing event at its users, with the tracking state it carries: PRU steps the index, MVE counts, DMN judges a
slip, in this order, so that the result of a move that a slip burst ends shows the stepped index (R16, R52, R84; DEDUCED,
notes/assumptions/44.md); after them the Arbiter may choose (R142). -/
def State.crossing (s : State) (d : Dir) (carried : TrackState) : State :=
  let t := (s.moveIndex d.step).mveCrossing
  (if carried = .closed then t.slip else t).arbitrate

/-! ### LPR stage -/

/-- What the CLOSED sample computes from an error, an acceleration, the gains and the loop's memory (R25, R26): the
drive and the integrator. -/
def closedSample (e acc : Int) (kp ki kd : Nat) (ks integ ePrev : Int) : Int × Int :=
  let i' := clampI Config.minIntegrator Config.maxIntegrator (integ + e * ki)
  let u0 := roundAway (e * kp + i' + (e - ePrev) * kd) 1024
  let u1 := u0 + roundAway (acc * ks) 64
  let keep := (2047 < u1 ∧ 0 < e * (ki : Int)) ∨ (u1 < -2048 ∧ e * (ki : Int) < 0)
  (clampI (-2048) 2047 u1, if keep then integ else i')

/-- The focus loop's CLOSED sample (R25 to R27, R29). -/
def FocusLoop.compute (f : FocusLoop) (m : Params) (fe az : Int) : FocusLoop :=
  let prev := if f.resume then fe else f.ePrev
  let r :=
    match f.gains with
    | .normal => closedSample fe az m.fkpN m.fkiN m.fkdN m.ksF f.integ prev
    | .boost => closedSample fe az m.fkpB m.fkiB m.fkdB m.ksF f.integ prev
  { f with drive := r.1, integ := r.2, ePrev := fe, resume := false }

/-- The tracking loop's CLOSED sample (R25 to R27, R29). -/
def TrackLoop.compute (t : TrackLoop) (m : Params) (te ax : Int) : TrackLoop :=
  let prev := if t.resume then te else t.ePrev
  let r :=
    match t.gains with
    | .normal => closedSample te ax m.tkpN m.tkiN m.tkdN m.ksT t.integ prev
    | .boost => closedSample te ax m.tkpB m.tkiB m.tkdB m.ksT t.integ prev
  { t with drive := r.1, integ := r.2, ePrev := te, resume := false }

/-- The pull-in test of a SEARCH sample (R34). -/
def FocusLoop.pullsIn (f : FocusLoop) (m : Params) (sum : Nat) (fe : Int) : Bool :=
  m.sumPullin ≤ sum &&
    match f.prevFe with
    | some p => fe * p ≤ 0
    | none => false

/-- Pull-in: CLOSED on the ramp value, the integrator preset (R34). -/
def FocusLoop.pulledIn (f : FocusLoop) (fe : Int) : FocusLoop :=
  { f with state := .closed, integ := f.drive * 1024, ePrev := fe, resume := false }

/-- The ramp value and direction after a SEARCH step, before the sweep's end is judged (R33 step 2). -/
def rampStep (r : Ramp) (drive step span : Int) : Int × Ramp :=
  match r with
  | .rising =>
    let d := min (drive + step) span
    (d, if d = span then .falling else .rising)
  | .falling => (max (drive - step) (-span), .falling)

/-- The step of a SEARCH sample that does not pull in (R33). -/
def FocusLoop.searchStep (f : FocusLoop) (m : Params) (fe : Int) : FocusLoop :=
  let r := rampStep f.ramp f.drive m.searchStep m.searchSpan
  let ended := r.1 = -(m.searchSpan : Int)
  { f with
    prevFe := some fe, drive := r.1, ramp := if ended then .rising else r.2
    sweeps := if ended then f.sweeps + 1 else f.sweeps }

/-- The step of a SEARCH sample that does not pull in ends a sweep with the count at FOCUS_TRIES or above: the search
fails (R34). -/
def FocusLoop.searchFails (f : FocusLoop) (m : Params) : Bool :=
  (rampStep f.ramp f.drive m.searchStep m.searchSpan).1 = -(m.searchSpan : Int) && m.focusTries ≤ f.sweeps + 1

/-- What the LPR stage reports to the Move Engine (R40). -/
inductive LprReport where
  | none | pulledIn | searchFailed | trackingClosed
deriving DecidableEq, Repr

/-- The report of an LPR stage that finds the loops in a state. -/
def State.lprReport (s : State) : LprReport :=
  if s.focus.state = .search then
    if s.focus.pullsIn s.prm s.dfe.sum s.dfe.fe then .pulledIn
    else if s.focus.searchFails s.prm then .searchFailed
    else .none
  else if s.track.state = .closing ∧ s.focus.state = .closed ∧ (s.dfe.te.natAbs : Int) ≤ s.prm.closeLevel then
    .trackingClosed
  else .none

/-- The focus loop's part of the LPR stage (R18); on a failed search both loops go OPEN (R20, R34). -/
def State.focusStage (s : State) : State :=
  match s.focus.state with
  | .opened | .held => s
  | .closed => { s with focus := s.focus.compute s.prm s.dfe.fe s.dfe.az }
  | .search =>
    if s.focus.pullsIn s.prm s.dfe.sum s.dfe.fe then { s with focus := s.focus.pulledIn s.dfe.fe }
    else
      let t := { s with focus := s.focus.searchStep s.prm s.dfe.fe }
      if s.focus.searchFails s.prm then t.focusOpen else t

/-- The tracking loop CLOSED by a successful close test (R35). -/
def TrackLoop.closedOn (t : TrackLoop) (te : Int) : TrackLoop :=
  { t with state := .closed, integ := 0, ePrev := te, resume := false }

/-- The tracking loop's part of the LPR stage (R19, R35, R37), on the loop states that the stage finds; `focusFound` is
the focus state the stage found. -/
def State.trackStage (s : State) (focusFound : FocusState) : State :=
  match s.track.state with
  | .opened | .held => s
  | .closed => { s with track := s.track.compute s.prm s.dfe.te s.dfe.ax }
  | .closing =>
    if focusFound = .closed ∧ (s.dfe.te.natAbs : Int) ≤ s.prm.closeLevel then s.setTrack (s.track.closedOn s.dfe.te)
    else s
  | .jumping =>
    { s with track := { s.track with drive := kickDrive s.prm.kick s.track.jumpDir s.track.kick } }

/-- The sled's following at a servo sample event, by the tracking state that the LPR stage found (R80). The sample that
enters following is not summed (DEDUCED, notes/assumptions/9.md). -/
def State.followSample (s : State) (found : TrackState) : State :=
  match found, s.slc.state with
  | .closed, .unknown | .closed, .idle | .closed, .atHome =>
    { s with
      slc := { s.slc with state := .trackingFollow, duty := 0, followSum := 0, followCount := 0 } }
  | .closed, .trackingFollow =>
    if s.slc.followCount < Config.max16 then
      { s with
        slc :=
          { s.slc with followSum := s.slc.followSum + s.track.drive, followCount := s.slc.followCount + 1 } }
    else s
  | .opened, .trackingFollow => { s with slc := s.slc.rest }
  | _, _ => s

/-- A report of the LPR stage at the Move Engine (R110). -/
def State.takeReport (s : State) (r : LprReport) : State :=
  match r with
  | .none => s
  | .pulledIn => s.onPulledIn
  | .searchFailed => s.onSearchFailed
  | .trackingClosed => s.onTrackingClosed

/-- Both loops computed (R1, R18, R19): the state in which the LPR stage leaves the loops and the drives, which the
Disturbance Monitor judges in the same sample (R40, R42). -/
def State.loopStage (s : State) : State := s.focusStage.trackStage s.focus.state

/-- The LPR stage (R1, R40, R80): both loops, the sled's following, then the report with what it leads to. The commands
given in answer to the report take effect from the next servo sample event: the DMN stage of this one judges the loops as
`loopStage` leaves them (R24; DEDUCED, notes/assumptions/8.md: between the two samples they stand as commanded). -/
def State.lprStage (s : State) : State :=
  ((s.loopStage.followSample s.track.state).takeReport s.lprReport).arbitrate

/-! ### DMN stage

The judgements take the focus state and the drives that the LPR stage has left (R42), and change the loops as they stand
after that stage's report. -/

/-- A sample is dark when RFE lies below DEF_LEVEL (R43). -/
def State.dark (s : State) : Bool := s.dfe.rfe < s.prm.defLevel

/-- The runs and the hold length all 0, with a detector state (R44 to R47). -/
def Dmn.runsCleared (v : Dmn) (d : DefectState) : Dmn :=
  { v with defect := d, lowRun := 0, goodRun := 0, holdLength := 0 }

/-- The good run of a HOLDING sample (R45 step 2). -/
def State.goodRunNext (s : State) : Nat := if s.dark then 0 else s.dmn.goodRun + 1

/-- A dark sample of a CLOSED focus loop completes the low run, and a defect hold begins (R43, R44). -/
def State.holdBegins (s : State) (f : FocusState) : Bool :=
  s.dmn.defect = .watching && f = .closed && s.dark && s.prm.defOn ≤ s.dmn.lowRun + 1

/-- The good run ends the hold at this sample (R45 step 3). -/
def State.holdEnds (s : State) (f : FocusState) : Bool :=
  s.dmn.defect = .holding && f = .held && s.prm.defOff ≤ s.goodRunNext

/-- The defect judgement ends a hold forcibly at this sample (R45 step 4, R46). -/
def State.forcedEndDue (s : State) (f : FocusState) : Bool :=
  s.dmn.defect = .holding && f = .held && s.goodRunNext < s.prm.defOff && s.prm.defMax ≤ s.dmn.holdLength + 1

/-- The focus state as the defect judgement leaves it (R42, R54). -/
def State.focusLeft (s : State) (f : FocusState) : FocusState :=
  if s.holdBegins f then .held else if s.holdEnds f || s.forcedEndDue f then .closed else f

/-- The defect judgement (R43 to R47), on the focus state that the LPR stage has left. -/
def State.judgeDefect (s : State) (f : FocusState) : State :=
  match s.dmn.defect with
  | .watching =>
    if s.holdBegins f then (({ s with dmn := s.dmn.runsCleared .holding } : State).bump .defect).holdLoops
    else { s with dmn := { s.dmn with lowRun := if f = .closed ∧ s.dark = true then s.dmn.lowRun + 1 else 0 } }
  | .holding =>
    if s.holdEnds f then ({ s with dmn := s.dmn.runsCleared .watching } : State).releaseLoops
    else if s.forcedEndDue f then
      ((({ s with dmn := s.dmn.runsCleared .blocked } : State).releaseLoops.bump .longDefect).raiseBoth .defectLong)
    else if f = .held then
      { s with dmn := { s.dmn with goodRun := s.goodRunNext, holdLength := s.dmn.holdLength + 1 } }
    else { s with dmn := s.dmn.runsCleared .watching }
  | .blocked =>
    if s.dark then s else { s with dmn := { s.dmn with defect := .watching, lowRun := 0 } }

/-- The sample advances the focus-loss run (R54). -/
def State.lossAdvances (s : State) (f : FocusState) : Bool := f = .closed && s.dfe.sum < s.prm.sumFloor

/-- The focus-loss run after the update of R54. -/
def State.lossRunNext (s : State) (f : FocusState) : Nat :=
  match f with
  | .closed => if s.lossAdvances f then s.dmn.lossRun + 1 else 0
  | .held => s.dmn.lossRun
  | .opened | .search => 0

/-- The focus-loss judgement (R54, R55), on the focus state that the defect judgement has left. A loss is declared by a
sample that advances the run, also where FLOST_N was lowered below the run reached; it reaches the Drive Supervisor. -/
def State.judgeFocusLoss (s : State) (f : FocusState) : State :=
  if s.lossAdvances f && s.prm.flostN ≤ s.lossRunNext f then
    ((({ s with dmn := { s.dmn with lossRun := 0 } } : State).bump .focusLost).raiseBoth
      .focusLost).focusLost.arbitrate
  else { s with dmn := { s.dmn with lossRun := s.lossRunNext f } }

/-- A shock sample (R49). -/
def State.shockSample (s : State) : Bool :=
  s.prm.shockLevel ≤ s.dfe.ax.natAbs || s.prm.shockLevel ≤ s.dfe.az.natAbs

/-- The shock judgement (R49, R31). -/
def State.judgeShock (s : State) : State :=
  if s.shockSample then
    if s.dmn.window then { s with dmn := { s.dmn with remaining := s.prm.shockHold } }
    else
      ((({ s with dmn := { s.dmn with window := true, remaining := s.prm.shockHold } } : State).setGains
        .boost).bump .shock).raiseBoth .shock
  else if s.dmn.window ∧ s.dmn.remaining = 0 then
    ({ s with dmn := { s.dmn with window := false } } : State).setGains .normal
  else s

/-- A drive is at its limit (R56). -/
def atLimit (d : Int) : Bool := d = -2048 || d = 2047

/-- Either loop's own drive is saturated: at a limit while that loop is CLOSED or HELD (R56). -/
def State.saturated (s : State) : Bool :=
  (atLimit s.focus.drive && s.focus.state.locked) || (atLimit s.track.drive && s.track.state.follows)

/-- The overload judgement, on the drives and loop states that the LPR stage has left (R42, R56, R57; DEDUCED,
notes/assumptions/18.md). -/
def State.judgeOverload (s : State) (saturated : Bool) : State :=
  if saturated then
    let n := satN Config.max16 (s.dmn.overloadRun + 1)
    if s.prm.overloadN ≤ n then
      (({ s with dmn := { s.dmn with overloadRun := 0 } } : State).fault .driveOverload).arbitrate
    else { s with dmn := { s.dmn with overloadRun := n } }
  else { s with dmn := { s.dmn with overloadRun := 0 } }

/-- The DMN stage: the four judgements in the order of R42, on the loops and drives of `loops`, the state in which the
LPR stage has left them. -/
def State.dmnStage (s loops : State) : State :=
  let f := loops.focus.state
  (((s.judgeDefect f).judgeFocusLoss (s.focusLeft f)).judgeShock).judgeOverload loops.saturated

/-! ### The event -/

/-- The DFE stage with the crossing users and the balance sums: all that comes before the LPR stage (R1, R13). -/
def State.frontStage (s : State) (x : SampleInputs) : State :=
  let t := s.dfeStage x
  let u :=
    match s.crossingOf x with
    | some d => t.crossing d s.track.state
    | none => t
  u.balanceSample

/-- A servo sample event: one operation in three stages (R1). -/
def State.sampleEvent (s : State) (x : SampleInputs) : State :=
  let t := s.frontStage x
  t.lprStage.dmnStage t.loopStage

/-- SERVO_SAMPLE_EVENT (R1). While RSTN is low no servo sample event is taken. -/
def execServoSampleEvent (x : SampleInputs) (s : State) : Host.Outcome State Fault Refusal :=
  .next (if s.rstnLow then s else s.sampleEvent x)

/-- SEARCH_FAILED (R34): the servo sample event whose LPR stage fails the focus search. A sample that does not is not
this event, and changes nothing here (DEDUCED, notes/assumptions/6.md). -/
def execSearchFailed (x : SampleInputs) (s : State) : Host.Outcome State Fault Refusal :=
  .next (if s.rstnLow = false ∧ (s.frontStage x).lprReport = .searchFailed then s.sampleEvent x else s)

/-- DEFECT_FORCED_END (R46): the servo sample event whose DMN stage ends a defect hold at DEF_MAX. A sample that does
not is not this event, and changes nothing here (DEDUCED, notes/assumptions/6.md). -/
def execDefectForcedEnd (x : SampleInputs) (s : State) : Host.Outcome State Fault Refusal :=
  let t := s.frontStage x
  .next (if s.rstnLow = false ∧ t.lprStage.forcedEndDue t.loopStage.focus.state = true then s.sampleEvent x else s)

end Sys2Proof.Machine
end

