-- ==== Sys2Proof/Machine/Ticks.lean ====
section
/-!
DEFINITION. The commands of the millisecond tick: each timer's expiry, and the tick that advances every timer that does
not expire at it (R36, R50, R70, R74, R78, R81, R103, R107 to R109, R117, R122, R124, R126). An expiry whose timer is
not due at this tick changes nothing (DEDUCED, notes/assumptions/5.md), and no tick is taken while RSTN is low (R193).
-/

namespace Sys2Proof.Machine

/-- A timer that has reached its limit: it shows the count that did, and stops. -/
def Timer.expired (t : Timer) : Timer := { count := t.count + 1, running := false }

/-- An event that is taken only outside reset and where it is due; otherwise nothing changes. -/
def State.when (s : State) (due : Bool) (effect : State → State) : State :=
  if !s.rstnLow && due then effect s else s

/-! ### Close timer (R36, R107) -/

/-- The close timer reaches CLOSE_TO at this tick (R36). -/
def State.closeDue (s : State) : Bool := s.track.state = .closing && s.prm.closeTo ≤ s.track.closeTimer + 1

/-- The close fails: tracking OPEN with an empty memory, and "close failed" with what it leads to (R36, R107). -/
def State.closeFails (s : State) : State :=
  (s.setTrack
    { s.track.emptied .opened with closeTimer := s.track.closeTimer + 1 }).onCloseFailed.arbitrate

/-- CLOSE_TIMEOUT (R36). -/
def execCloseTimeout (s : State) : Host.Outcome State Fault Refusal := .next (s.when s.closeDue State.closeFails)

/-- CLOSE_PHASE_RETRY (R107): the close timeout that a close phase, a settling close, a holding jump or a recovery waits
for. Where none waits, the close timeout is not this event (DEDUCED, notes/assumptions/6.md). -/
def execClosePhaseRetry (s : State) : Host.Outcome State Fault Refusal :=
  .next (s.when (s.closeDue && s.closeAwaited) State.closeFails)

/-! ### Spindle timers (R70, R74) -/

/-- The spin timer advances in ACCEL and LOCKING (R70). -/
def SpindleState.spinsUp : SpindleState → Bool
  | .accel | .locking => true
  | _ => false

/-- The spin timer reaches SPIN_TO at this tick (R70). -/
def State.spinDue (s : State) : Bool := s.spc.state.spinsUp && s.spc.spinTimer.dueAt s.prm.spinTo

/-- The spin-up fails: the timer stops, and SPIN_FAIL is latched with a fault stop (R70, R164). -/
def State.spinFails (s : State) : State :=
  (({ s with spc := { s.spc with spinTimer := s.spc.spinTimer.expired } } : State).fault .spinFail).arbitrate

/-- SPIN_TIMEOUT (R70). -/
def execSpinTimeout (s : State) : Host.Outcome State Fault Refusal := .next (s.when s.spinDue State.spinFails)

/-- The spindle states in which 200 ms without an edge mean that the disc has stopped (R74). -/
def SpindleState.runsOut : SpindleState → Bool
  | .braking | .rundown | .coast => true
  | _ => false

/-- The silence timer reaches 200 at this tick with the disc running out (R74). -/
def State.stopDue (s : State) : Bool := s.spc.state.runsOut && Config.silenceLimit ≤ s.spc.silence + 1

/-- The disc has stopped: STOPPED with duty 0, direction FWD and DA 0, and "spindle stopped" (R74). -/
def State.spindleStops (s : State) : State :=
  ({ s with
      spc :=
        { s.spc.rest .stopped with da := 0, silence := Config.silenceLimit } } : State).onSpindleStopped.arbitrate

/-- SPINDLE_STOPPED (R74). -/
def execSpindleStopped (s : State) : Host.Outcome State Fault Refusal := .next (s.when s.stopDue State.spindleStops)

/-! ### Sled timers (R78, R81) -/

/-- The homing timer reaches SLED_HOME_TO at this tick (R78). -/
def State.stuckDue (s : State) : Bool := s.slc.state = .homing && s.slc.homingTimer.dueAt s.prm.sledHomeTo

/-- The sled is stuck: UNKNOWN with duty 0 and not homed, and "sled stuck" (R78). -/
def State.sledSticks (s : State) : State :=
  ({ s with
      slc :=
        { s.slc with
          state := .unknown, duty := 0, homed := false, homingTimer := s.slc.homingTimer.expired } } : State).onSledStuck.arbitrate

/-- SLED_STUCK (R78). -/
def execSledStuck (s : State) : Host.Outcome State Fault Refusal := .next (s.when s.stuckDue State.sledSticks)

/-- The nudge timer reaches the nudge's length at this tick (R81). -/
def State.nudgeDue (s : State) : Bool := s.slc.nudgeTimer.dueAt s.slc.nudgeLength

/-- A nudge ends: the sled duty becomes 0 and its timer stops (R81). -/
def State.nudgeEnds (s : State) : State :=
  { s with slc := { s.slc with duty := 0, nudgeTimer := s.slc.nudgeTimer.expired } }

/-- NUDGE_END (R81). -/
def execNudgeEnd (s : State) : Host.Outcome State Fault Refusal := .next (s.when s.nudgeDue State.nudgeEnds)

/-! ### Move Engine timers (R108, R109, R117, R122, R126) -/

/-- The kinds whose timed-out phases set the timed-out flag: not the seeks by block (R108, R121). -/
def MoveKind.flagsTimeout : MoveKind → Bool
  | .seekBlock | .resumeMark => false
  | _ => true

/-- The active move is a seek by block (R98, R121). -/
def State.seekingBlock (s : State) : Bool := s.mve.active.any (fun m => !m.kind.flagsTimeout)

/-- A jump phase times out at this tick, at 5 + n ms (R108). -/
def State.jumpDue (s : State) : Bool :=
  s.mve.phase = .jump && s.mve.jumpTimer.dueAt (Config.jumpBaseMs + s.mve.jumpSize)

/-- A jump has timed out: the flag is set, but for a seek by block, and a close phase begins (R108, R121). -/
def State.jumpTimesOut (s : State) : State :=
  ({ s with
      mve :=
        { s.mve with
          jumpTimer := s.mve.jumpTimer.expired
          timedOut := s.mve.timedOut || !s.seekingBlock } } : State).startClosePhase.arbitrate

/-- JUMP_TIMEOUT (R108). -/
def execJumpTimeout (s : State) : Host.Outcome State Fault Refusal := .next (s.when s.jumpDue State.jumpTimesOut)

/-- A holding jump times out at this tick, at 6 ms (R117). -/
def State.holdDue (s : State) : Bool :=
  s.mve.holdJump = .jumping && s.mve.holdTimer.dueAt (Config.jumpBaseMs + 1)

/-- A holding jump has timed out: its close is given (R117). -/
def State.holdTimesOut (s : State) : State :=
  ({ s with mve := { s.mve with holdTimer := s.mve.holdTimer.expired } } : State).closeHoldJump.arbitrate

/-- HOLDING_JUMP_TIMEOUT (R117). -/
def execHoldingJumpTimeout (s : State) : Host.Outcome State Fault Refusal := .next (s.when s.holdDue State.holdTimesOut)

/-- A coarse phase times out at this tick (R109). -/
def State.seekDue (s : State) : Bool := s.mve.phase = .coarse && s.mve.seekTimer.dueAt s.prm.seekTo

/-- A coarse phase has timed out: the sled stops and a close phase begins, with the timed-out flag set for SEEK_TRACK
alone (R109, R121). -/
def State.seekTimesOut (s : State) : State :=
  ({ s with
      mve :=
        { s.mve with
          seekTimer := s.mve.seekTimer.expired
          timedOut := s.mve.timedOut || !s.seekingBlock } } : State).sledStop.startClosePhase.arbitrate

/-- SEEK_TIMEOUT (R109). -/
def execSeekTimeout (s : State) : Host.Outcome State Fault Refusal := .next (s.when s.seekDue State.seekTimesOut)

/-- An address wait expires at this tick (R122). -/
def State.waitDue (s : State) : Bool := s.mve.phase = .addressWait && s.mve.waitTimer.dueAt s.mve.waitLimit

/-- An address wait has expired (R124). -/
def State.waitExpires (s : State) : State :=
  ({ s with mve := { s.mve with waitTimer := s.mve.waitTimer.expired } } : State).correctOnExpiry.arbitrate

/-- ADDRESS_WAIT_EXPIRY (R124). -/
def execAddressWaitExpiry (s : State) : Host.Outcome State Fault Refusal := .next (s.when s.waitDue State.waitExpires)

/-- The revolution gap timer reaches 1,000 at this tick (R126). -/
def State.gapDue (s : State) : Bool := s.mve.phase = .measure && s.mve.gapTimer.dueAt Config.gapLimitMs

/-- The measurement has failed: a close phase begins with the timed-out flag set (R126). -/
def State.gapTimesOut (s : State) : State :=
  ({ s with
      mve := { s.mve with gapTimer := s.mve.gapTimer.expired, timedOut := true } } : State).startClosePhase.arbitrate

/-- REVOLUTION_GAP_TIMEOUT (R126). -/
def execRevolutionGapTimeout (s : State) : Host.Outcome State Fault Refusal := .next (s.when s.gapDue State.gapTimesOut)

/-! ### Ticks without an expiry (R50, R103, R74) -/

/-- SHOCK_TIME_COUNTDOWN (R50): the remaining time of an open window falls by 1 and closes nothing. -/
def execShockTimeCountdown (s : State) : Host.Outcome State Fault Refusal :=
  .next (s.when (s.dmn.window && 0 < s.dmn.remaining) (fun t =>
    { t with dmn := { t.dmn with remaining := t.dmn.remaining - 1 } }))

/-- ELAPSED_TIME_TICK (R103): the elapsed time of an active move rises by 1, stopping at 65,535. -/
def execElapsedTimeTick (s : State) : Host.Outcome State Fault Refusal :=
  .next (s.when s.mve.active.isSome (fun t =>
    { t with mve := { t.mve with elapsed := satN Config.max16 (t.mve.elapsed + 1) } }))

/-- The spindle's timers at a tick that none of them expires at (R70, R74). -/
def Spc.tick (c : Spc) (spinTo : Nat) : Spc :=
  { c with
    silence :=
      if c.state.runsOut && Config.silenceLimit ≤ c.silence + 1 then c.silence
      else satN Config.silenceLimit (c.silence + 1)
    spinTimer := if c.state.spinsUp then c.spinTimer.tick spinTo else c.spinTimer }

/-- The sled's timers at a tick that none of them expires at (R78, R81). -/
def Slc.tick (c : Slc) (homeTo : Nat) : Slc :=
  { c with homingTimer := c.homingTimer.tick homeTo, nudgeTimer := c.nudgeTimer.tick c.nudgeLength }

/-- The Move Engine's timers at a tick that none of them expires at (R108, R109, R117, R122, R126). -/
def Mve.tick (m : Mve) (seekTo : Nat) : Mve :=
  { m with
    jumpTimer := m.jumpTimer.tick (Config.jumpBaseMs + m.jumpSize)
    seekTimer := m.seekTimer.tick seekTo
    waitTimer := m.waitTimer.tick m.waitLimit
    gapTimer := m.gapTimer.tick Config.gapLimitMs
    holdTimer := m.holdTimer.tick (Config.jumpBaseMs + 1) }

/-- The close timer at a tick that it does not expire at (R36). -/
def TrackLoop.tick (t : TrackLoop) (closeTo : Nat) : TrackLoop :=
  { t with
    closeTimer := if t.state = .closing && t.closeTimer + 1 < closeTo then t.closeTimer + 1 else t.closeTimer }

/-- Every running timer that does not expire at this tick one millisecond further. -/
def State.tickTimers (s : State) : State :=
  { s with
    track := s.track.tick s.prm.closeTo
    spc := s.spc.tick s.prm.spinTo
    slc := s.slc.tick s.prm.sledHomeTo
    mve := s.mve.tick s.prm.seekTo }

/-- MILLISECOND_TICK (R74): every running timer that does not expire at it advances; one that does is left for its own
row, and so are the shock window and the elapsed time (DEDUCED, notes/assumptions/4.md). -/
def execMillisecondTick (s : State) : Host.Outcome State Fault Refusal := .next (s.when true State.tickTimers)

end Sys2Proof.Machine
end

