-- ==== Sys2Proof/Machine/Dispatch.lean ====
section
/-!
DEFINITION. The dispatch: one arm per command of the opcode table, each one direct call of its meaning.
-/

namespace Sys2Proof.Machine

/-- The effect of a command on everything but the queue of commands. -/
def exec (i : Instr) (s : State) : Host.Outcome State Fault Refusal :=
  match i with
  | .servoSampleEvent x => Sys2Proof.Machine.execServoSampleEvent x s
  | .searchFailed x => Sys2Proof.Machine.execSearchFailed x s
  | .defectForcedEnd x => Sys2Proof.Machine.execDefectForcedEnd x s
  | .hallEdge elapsedUs => Sys2Proof.Machine.execHallEdge elapsedUs s
  | .closeTimeout => Sys2Proof.Machine.execCloseTimeout s
  | .spinTimeout => Sys2Proof.Machine.execSpinTimeout s
  | .spindleStopped => Sys2Proof.Machine.execSpindleStopped s
  | .sledStuck => Sys2Proof.Machine.execSledStuck s
  | .nudgeEnd => Sys2Proof.Machine.execNudgeEnd s
  | .jumpTimeout => Sys2Proof.Machine.execJumpTimeout s
  | .holdingJumpTimeout => Sys2Proof.Machine.execHoldingJumpTimeout s
  | .seekTimeout => Sys2Proof.Machine.execSeekTimeout s
  | .addressWaitExpiry => Sys2Proof.Machine.execAddressWaitExpiry s
  | .revolutionGapTimeout => Sys2Proof.Machine.execRevolutionGapTimeout s
  | .shockTimeCountdown => Sys2Proof.Machine.execShockTimeCountdown s
  | .elapsedTimeTick => Sys2Proof.Machine.execElapsedTimeTick s
  | .homeSwitchChange active => Sys2Proof.Machine.execHomeSwitchChange active s
  | .lowvAssertion => Sys2Proof.Machine.execLowvAssertion s
  | .lowvRelease => Sys2Proof.Machine.execLowvRelease s
  | .rstnAsserted => Sys2Proof.Machine.execRstnAsserted s
  | .rstnReleased => Sys2Proof.Machine.execRstnReleased s
  | .powerOn => Sys2Proof.Machine.execPowerOn s
  | .submit p f => Sys2Proof.Machine.execSubmit p f s
  | .flush p f => Sys2Proof.Machine.execFlush p f s
  | .resetPort p f => Sys2Proof.Machine.execResetPort p f s
  | .getState p f => Sys2Proof.Machine.execGetState p f s
  | .getPosition p f => Sys2Proof.Machine.execGetPosition p f s
  | .getResults p f => Sys2Proof.Machine.execGetResults p f s
  | .getNotices p f => Sys2Proof.Machine.execGetNotices p f s
  | .setNoticeMask p f => Sys2Proof.Machine.execSetNoticeMask p f s
  | .getCounters p f => Sys2Proof.Machine.execGetCounters p f s
  | .getFault p f => Sys2Proof.Machine.execGetFault p f s
  | .clearFault p f => Sys2Proof.Machine.execClearFault p f s
  | .getParam p f => Sys2Proof.Machine.execGetParam p f s
  | .setParam p f => Sys2Proof.Machine.execSetParam p f s
  | .setPortMode p f => Sys2Proof.Machine.execSetPortMode p f s
  | .addressReport p f => Sys2Proof.Machine.execAddressReport p f s
  | .mark p f => Sys2Proof.Machine.execMark p f s
  | .unmark p f => Sys2Proof.Machine.execUnmark p f s
  | .zoneSet p f => Sys2Proof.Machine.execZoneSet p f s
  | .getZones p f => Sys2Proof.Machine.execGetZones p f s
  | .deckReport p f => Sys2Proof.Machine.execDeckReport p f s
  | .setPolicy p f => Sys2Proof.Machine.execSetPolicy p f s
  | .closePhaseRetry => Sys2Proof.Machine.execClosePhaseRetry s
  | .millisecondTick => Sys2Proof.Machine.execMillisecondTick s
  | .selectChange p asserted => Sys2Proof.Machine.execSelectChange p asserted s
  | .unknownCodeRequest p code f => Sys2Proof.Machine.execUnknownCodeRequest p code f s

end Sys2Proof.Machine
end

