-- ==== Sys2Proof/Machine/Pins.lean ====
section
/-!
DEFINITION. The output pins of R196, as functions of the state: nothing here is held or written.
-/

namespace Sys2Proof.Machine

/-- ATNP and ATND: pulled low (R178, R196). -/
def State.attentionLow (s : State) (p : Port) : Bool := s.attention p

/-- SDOP and SDOD are driven while their select is asserted and RSTN is high (R196). -/
def State.dataOutDriven (s : State) (p : Port) : Bool := !s.rstnLow && (s.pif p).phase ≠ .released

/-- The byte that SDOP or SDOD carries at the next byte clock; none while the line is not driven (R185, R196). -/
def State.dataOut (s : State) (p : Port) : Option Byte := if s.dataOutDriven p then some (s.pif p).nextByte else none

/-- LDON is high while the laser is on (R196). -/
def State.laserEnable (s : State) : Bool := s.dsv.laser

/-- FOUT and TOUT carry the two drives (R40, R196), with what a command has changed since the last LPR stage (DEDUCED,
notes/assumptions/42.md). -/
def State.actuators (s : State) : Int × Int := (s.focus.drive, s.track.drive)

/-- SPWM as 256ths of the PWM period in progress, with SDIR as a sign, REV negative (R64, R196). -/
def State.spindlePwm (s : State) : Int := s.spc.pwm.out

/-- LPWM as 256ths of the PWM period in progress, with LDIR as a sign, INWARD negative (R76, R196). -/
def State.sledPwm (s : State) : Int := s.slc.pwm.out

/-- The two drivers at the start of a PWM period (R64, R76). -/
def State.pwmPeriod (s : State) : State :=
  { s with
    spc := { s.spc with pwm := s.spc.pwm.next s.spc.signedDuty }
    slc := { s.slc with pwm := s.slc.pwm.next s.slc.duty } }

end Sys2Proof.Machine
end

