-- ==== Sys2Proof/Safety.lean ====
section
/-!
DEFINITION. What a sound state of the JLB740 is: the laws that the rules of the spec state of every state, each under
the number of its rule. `Sound` gathers them; that every step keeps it is stated in Certificates/Slice0.
-/

namespace Sys2Proof.Machine

/-! ### Loops and laser -/

/-- R20: whenever the tracking loop is not OPEN, the focus loop is CLOSED or HELD. -/
def State.LoopLaw (s : State) : Prop := s.track.state ≠ .opened → s.focus.state.locked = true

/-- R18, R19: an OPEN loop, and a CLOSING tracking loop, give no drive. -/
def State.RestLaw (s : State) : Prop :=
  (s.focus.state = .opened → s.focus.drive = 0) ∧
    (s.track.state = .opened ∨ s.track.state = .closing → s.track.drive = 0)

/-- R21: while the laser is off the focus loop is OPEN. With R18 to R20 both loops are OPEN and both drives 0. -/
def State.DarkLaw (s : State) : Prop := s.dsv.laser = false → s.focus.state = .opened

/-- The drive states in which the laser may be on (8.1). -/
def DriveState.lit : DriveState → Bool
  | .starting | .tracking | .holding | .moving | .recovering => true
  | .noDisc | .idle | .stopping | .faulted | .powerHold => false

/-- R161 and the table of 8.1: while the laser is on the clamp is CLAMPED, LOWV DEASSERTED, and the drive in a state
with the laser on. -/
def State.LaserLaw (s : State) : Prop :=
  s.dsv.laser = true → s.dsv.clamp = .clamped ∧ s.dsv.lowv = false ∧ s.dsv.drive.lit = true

/-! ### Spindle -/

/-- R158: the permit is granted while the clamp is CLAMPED and LOWV DEASSERTED, and withdrawn otherwise. -/
def State.PermitLaw (s : State) : Prop := s.spc.permit = (s.dsv.clamp = .clamped && !s.dsv.lowv)

/-- The direction and the duty of each spindle state (4.4). -/
def Spc.TableLaw (c : Spc) : Prop :=
  match c.state with
  | .stopped | .rundown | .coast => c.dir = .fwd ∧ c.duty = 0
  | .accel => c.dir = .fwd ∧ c.duty = 255
  | .locking | .locked => c.dir = .fwd ∧ c.duty = c.da / 256
  | .braking => c.dir = .rev ∧ c.duty = 255

/-- R65 and 4.4: DA lies in 0..65,535, the table of 4.4 holds, and a spindle whose permit is withdrawn is in a state
without drive. -/
def Spc.DutyLaw (c : Spc) : Prop :=
  c.da ≤ 65535 ∧ c.TableLaw ∧ (c.permit = false → c.state = .stopped ∨ c.state = .rundown ∨ c.state = .coast)

/-! ### Work, anchor, supply -/

/-- R103, R105, R117, R133: an active move stands with its kind's drive state, a holding jump with HOLDING, and a recovery
activity with RECOVERING, so that at most one of them is in flight; a move that is no START, STOP or PARK returns to
TRACKING or HOLDING. -/
def State.WorkLaw (s : State) : Prop :=
  (∀ m, s.mve.active = some m →
      s.dsv.drive = m.kind.driveDuring ∧
        (m.kind.stopsDrive = false →
          s.mve.returnState = some .tracking ∨ s.mve.returnState = some .holding)) ∧
    (s.mve.holdJump ≠ .none → s.dsv.drive = .holding) ∧
    (s.mve.activity ≠ .none → s.dsv.drive = .recovering)

/-- R100, R152: while the record is anchored or the mark valid, the drive is TRACKING, HOLDING or MOVING. -/
def State.AnchorLaw (s : State) : Prop :=
  (s.pru.anchor.isSome = true → s.dsv.drive.settled = true) ∧ (s.arb.mark.isSome = true → s.dsv.drive.settled = true)

/-- R167, R168, R170: outside reset the LOWV state follows its input, and while it is ASSERTED the drive is
POWER_HOLD. -/
def State.SupplyLaw (s : State) : Prop :=
  (s.rstnLow = false → s.dsv.lowv = s.lowvPin) ∧ (s.dsv.lowv = true → s.dsv.drive = .powerHold)

/-! ### Records and numbers -/

/-- R135, R138: a queue holds at most 4 entries, and an urgent entry that waits stands in the slot. -/
def Arb.QueueLaw (a : Arb) : Prop :=
  a.queueP.length ≤ Config.queueDepth ∧ a.queueD.length ≤ Config.queueDepth ∧
    (a.urgentWaiting = true → a.urgent.isSome = true)

/-- R171, R173, R136: NEWER holds a record only behind one in OLDER, the dropped count is at most 255, and the ticket
counter runs 0..7. -/
def Pif.StoreLaw (v : Pif) : Prop :=
  (v.newer.isSome = true → v.older.isSome = true) ∧ v.dropped ≤ 255 ∧ v.ticket < Config.ticketCount

/-- R164: the lost flag is set only while a record is latched. -/
def Dsv.RecordLaw (d : Dsv) : Prop := d.lost = true → d.record.isSome = true

/-- A drive lies in -2048..2047 (R21). -/
def driveRange (x : Int) : Prop := -2048 ≤ x ∧ x ≤ 2047

/-- An integrator lies in its range (R26). -/
def integRange (x : Int) : Prop := Config.minIntegrator ≤ x ∧ x ≤ Config.maxIntegrator

/-- R21, R26, R127, R194: the parameters lie in their ranges, and so do the drives, the integrators and a measured
balance. -/
def State.RangeLaw (s : State) : Prop :=
  s.prm.InRange ∧ driveRange s.focus.drive ∧ driveRange s.track.drive ∧ integRange s.focus.integ ∧
    integRange s.track.integ ∧ (∀ v, s.mve.measured = some v → 128 ≤ v ∧ v ≤ 383)

/-- R63, R84: the track index lies in -2048..21,999, and the target period is the one of the present track index, SF and
KCLV. -/
def State.IndexLaw (s : State) : Prop :=
  Config.minTrack ≤ s.pru.trackIndex ∧ s.pru.trackIndex ≤ Config.maxTrack ∧
    s.spc.target = targetPeriod s.pru.trackIndex s.prm.sf s.prm.kclv

/-! ### Conditions that statements name -/

/-- No grant follows: the pickup is not free, or no step of R144 names a candidate. -/
def State.Still (s : State) : Prop := s.pickupFree = false ∨ s.candidate = none

/-- Both queues and the urgent slot are empty. -/
def State.NothingWaits (s : State) : Prop := s.arb.queueP = [] ∧ s.arb.queueD = [] ∧ s.arb.urgent = none

/-- The active move, granted from queue D, stands alone in the Arbiter: its entry is all that the queues and the slot
hold. -/
def State.LoneMove (s : State) (m : ActiveMove) : Prop :=
  s.mve.active = some m ∧ m.port = .portD ∧ m.urgent = false ∧ s.arb.source = .queueD ∧ s.arb.queueD.length = 1 ∧
    s.arb.queueP = [] ∧ s.arb.urgent = none

/-- A sample's detector values, as the DFE stage holds them. -/
def State.seen (s : State) (x : SampleInputs) : Dfe := s.dfe.sample s.prm x

/-- A calm sample: no crossing event is emitted, it is no shock sample, and the shock window is CLOSED. -/
def State.Calm (s : State) (x : SampleInputs) : Prop :=
  ((s.seen x).te.natAbs : Int) < s.prm.xingLevel ∧ (s.seen x).ax.natAbs < s.prm.shockLevel ∧
    (s.seen x).az.natAbs < s.prm.shockLevel ∧ s.dmn.window = false

/-- A frame that carries a payload: a LEN byte in 0..130 and as many words as it says, whatever follows them. -/
def Carries (f : Frame) (ws : List Word) : Prop :=
  f.len.toNat = ws.length ∧ ws.length ≤ 130 ∧ f.words.take ws.length = ws

/-- The LEN that 10.7 gives each request but ZONE_SET, by its CODE (R190, R195). -/
def requestLengths : List (Nat × Nat) :=
  [(0x20, 3), (0x21, 1), (0x2F, 0), (0x30, 1), (0x31, 0), (0x32, 0), (0x33, 0), (0x34, 1), (0x35, 1), (0x36, 0),
    (0x37, 0), (0x38, 1), (0x39, 2), (0x3A, 1), (0x40, 3), (0x41, 2), (0x42, 0), (0x44, 0), (0x50, 1), (0x51, 1)]

/-- R25 and R26 as one relation: the drive and the integrator after a CLOSED sample, from the error, the acceleration,
the gains, the feed coefficient, the integrator and the e_prev in use. -/
def ClosedSampleLaw (e acc : Int) (kp ki kd : Nat) (ks integ ePrev drive' integ' : Int) : Prop :=
  let i' := max (-8388608) (min (integ + e * ki) 8388607)
  let u1 := roundAway (e * kp + i' + (e - ePrev) * kd) 1024 + roundAway (acc * ks) 64
  drive' = max (-2048) (min u1 2047) ∧
    ((2047 < u1 ∧ 0 < e * ki) ∨ (u1 < -2048 ∧ e * ki < 0) → integ' = integ) ∧
    (¬((2047 < u1 ∧ 0 < e * ki) ∨ (u1 < -2048 ∧ e * ki < 0)) → integ' = i') ∧
    (integRange integ → integRange integ')

/-! ### A sound state -/

/-- The laws that every order and report keeps by itself. -/
structure State.Core (s : State) : Prop where
  loops : s.LoopLaw
  rest : s.RestLaw
  dark : s.DarkLaw
  permit : s.PermitLaw
  duty : s.spc.DutyLaw
  work : s.WorkLaw
  anchor : s.AnchorLaw
  queues : s.arb.QueueLaw
  storeP : s.pifP.StoreLaw
  storeD : s.pifD.StoreLaw
  record : s.dsv.RecordLaw
  range : s.RangeLaw
  index : s.IndexLaw

/-- A sound state: the laws of `Core`, and the two that an event restores only at its end. -/
structure State.Sound (s : State) : Prop extends s.Core where
  laser : s.LaserLaw
  supply : s.SupplyLaw

end Sys2Proof.Machine
end

