-- ==== Sys2Proof/WellFormed.lean ====
section
/-!
DEFINITION. Which commands a master or the environment can give: the frame of a request holds no more words than its LEN
byte says, and none where LEN is above 130 (R185, R186); a frame whose CODE names a request is that request (R190).
-/

namespace Sys2Proof

/-- A frame as a master can shift it in: at most LEN words, and none behind a LEN byte above 130 (R185, R186). Fewer
words than LEN are a partial request. -/
def Frame.wf (f : Frame) : Bool := f.words.length ≤ f.len.toNat && (f.len.toNat ≤ 130 || f.words.isEmpty)

/-- A well-formed command. -/
def Instr.wf (i : Instr) : Bool :=
  match i with
  | .unknownCodeRequest _ c f => f.wf && !knownCode c
  | j => (frameOf j).all (fun x => x.2.2.wf)

end Sys2Proof
end

