-- ==== Sys2Proof/Certificates/Slice0/Obligations.lean ====
section
/-!
DEFINITION. The statements about the JLB740 for the provers, each named in OBLIGATIONS.json with the rules it rests on.
An event's operands and the state are arbitrary but for the hypotheses; a request is met by a port that listens
(Machine/Port.lean) and by a frame that carries the payload named (Safety.lean). That a request comes as one whole row, and a
timer's expiry as a row of its own, is the model's choice (notes/assumptions/7.md, 4.md).
-/

open Sys2Proof Sys2Proof.Machine

/-! ### The block as a whole -/

/-- One step takes the command at the front of the queue and runs it on the state with the queue's rest. The queue is the
form of this model (notes/assumptions/1.md). -/
def Obligations.StepRunsFrontCommand : Prop :=
  ∀ (c : Instr) (rest : List Instr) (s : State),
    s.pending = c :: rest → step s = exec c { s with pending := rest }

/-- With no command waiting, the two PWM generators begin their next period: the signed duties that stand are the ones
commanded, and a period after an enable from zero or a change of direction is inactive (R64, R76). That an idle step is
such a period is the model's choice (notes/assumptions/1.md, 13.md). -/
def Obligations.IdleStepStartsPwmPeriod : Prop :=
  ∀ s : State, s.pending = [] →
    step s =
      .next
        { s with
          spc :=
            { s.spc with
              pwm :=
                { last := s.spc.signedDuty
                  out := if s.spc.pwm.last.sign = s.spc.signedDuty.sign then s.spc.signedDuty else 0 } }
          slc :=
            { s.slc with
              pwm :=
                { last := s.slc.duty, out := if s.slc.pwm.last.sign = s.slc.duty.sign then s.slc.duty else 0 } } }

/-- Every command, in every state, gives a next state, and leaves the queue of commands as it is. The queue, and that nothing
the spec describes stops the block, are the model's choices (notes/assumptions/1.md, 19.md). -/
def Obligations.EveryCommandCompletes : Prop :=
  ∀ (i : Instr) (s : State), ∃ t, exec i s = .next t ∧ t.pending = s.pending

/-- The bytes of a well-formed request decode to that request, every operand at every value (R185, R186, R190). -/
def Obligations.FramesDecodeBack : Prop :=
  ∀ (i : Instr) (p : Port) (bs : List Byte), i.wf = true → encodeFrame i = some (p, bs) → decodeFrame p bs = some i

/-- A sound state stays sound at every step. -/
def Obligations.StepKeepsSound : Prop := ∀ s t : State, s.Sound → step s = .next t → t.Sound

/-- The state after reset is sound. The levels of the lines and the fields without an after-reset value of the spec's stand
there as the model chooses (notes/assumptions/2.md, 17.md). -/
def Obligations.ResetIsSound : Prop := State.reset.Sound

/-- A port's settings belong to that port: a command that is no request on the port and no reset leaves the port's
result-store mode, its mask and its baselines as they are (R174, R178, R181, R183). -/
def Obligations.PortSettingsOwned : Prop :=
  ∀ (p : Port) (i : Instr) (s t : State),
    (∀ c f, frameOf i ≠ some (p, c, f)) → i ≠ .rstnAsserted → i ≠ .rstnReleased → i ≠ .powerOn → exec i s = .next t →
      (t.pif p).mode = (s.pif p).mode ∧ (t.pif p).mask = (s.pif p).mask ∧
        (t.pif p).baselines = (s.pif p).baselines

/-! ### Reset -/

/-- While RSTN is low no event and no request is taken (R193). That the HOME and LOWV rows then set the level of their line and
take no event is the model's choice (notes/assumptions/21.md). -/
def Obligations.ResetHeldTakesNoEvent : Prop :=
  ∀ s : State, s.rstnLow = true →
    (∀ x, exec (.servoSampleEvent x) s = .next s ∧ exec (.searchFailed x) s = .next s ∧
        exec (.defectForcedEnd x) s = .next s) ∧
      (∀ us, exec (.hallEdge us) s = .next s) ∧
      (∀ i : Instr,
        i ∈ [Instr.closeTimeout, .spinTimeout, .spindleStopped, .sledStuck, .nudgeEnd, .jumpTimeout,
            .holdingJumpTimeout, .seekTimeout, .addressWaitExpiry, .revolutionGapTimeout, .shockTimeCountdown,
            .elapsedTimeTick, .closePhaseRetry, .millisecondTick] → exec i s = .next s) ∧
      (∀ (i : Instr) (p : Port) (c : Byte) (f : Frame), frameOf i = some (p, c, f) → exec i s = .next s) ∧
      (∀ a, exec (.homeSwitchChange a) s = .next { s with homePin := a }) ∧
      exec .lowvAssertion s = .next { s with lowvPin := true } ∧
      exec .lowvRelease s = .next { s with lowvPin := false }

/-- RSTN falling, from any state, gives every block its after-reset values and leaves every output inactive; the release, and
a power-on with RSTN high, give the same with RSTN high, where the LOWV input is deasserted (R193). That the levels of LOWV
and HOME stay is the model's choice (notes/assumptions/2.md), and so is that a select asserted during reset is disregarded
(notes/assumptions/26.md); a power-on with RSTN low is not stated here (notes/assumptions/20.md). -/
def Obligations.ResetGivesAfterResetValues : Prop :=
  ∀ s : State,
    let held (low : Bool) (t : State) : Prop :=
      t = { State.reset with
            rstnLow := low, lowvPin := s.lowvPin, homePin := s.homePin, pending := s.pending,
            pifP := { Pif.reset with phase := if s.pifP.phase = .released then .released else .disregarded },
            pifD := { Pif.reset with phase := if s.pifD.phase = .released then .released else .disregarded } }
    (∃ t, exec .rstnAsserted s = .next t ∧ held true t ∧ t.actuators = (0, 0) ∧ t.spindlePwm = 0 ∧ t.sledPwm = 0 ∧
        t.laserEnable = false ∧ ∀ p, t.attentionLow p = false ∧ t.dataOutDriven p = false) ∧
      (s.rstnLow = true → s.lowvPin = false → ∃ t, exec .rstnReleased s = .next t ∧ held false t) ∧
      (s.rstnLow = false → s.lowvPin = false → ∃ t, exec .powerOn s = .next t ∧ held false t)

/-- A LOWV input that is asserted at the release of RSTN is taken as an assertion: the drive becomes POWER_HOLD, the
spindle coasts, and DRIVE_STATE is raised on both ports (R167, R170). -/
def Obligations.ReleaseUnderLowSupply : Prop :=
  ∀ s : State, s.rstnLow = true → s.lowvPin = true →
    ∃ t, exec .rstnReleased s = .next t ∧
      t = { State.reset with
            lowvPin := true, homePin := s.homePin, pending := s.pending, dsv := t.dsv, spc := t.spc, pifP := t.pifP,
            pifD := t.pifD } ∧
      t.dsv = { Dsv.reset with drive := .powerHold, lowv := true } ∧ t.spc = { Spc.reset with state := .coast } ∧
      t.pifP.flags = Notice.driveState.flag ∧ t.pifD.flags = Notice.driveState.flag

/-! ### Servo sample events -/

/-- A servo sample event outside reset holds the nine codes and the values formed from them. Its DFE stage arms the crossing
detector and emits a crossing event as the table of R14 gives; after the sample the armed side is the one so judged, with the
tracking state as it was, or NONE (R2, R4 to R10, R14, R15). That a change of the tracking state shows as NONE already between
two samples is the model's choice (notes/assumptions/41.md). -/
def Obligations.SampleConvertsAndDerives : Prop :=
  ∀ (x : SampleInputs) (s : State), s.rstnLow = false →
    let m := s.prm
    let code (v : Int) : Nat := (max 0 (min v 4095)).toNat
    let acc (v : Int) : Int := max (-512) (min v 511)
    let a := code x.a - m.ofsA
    let b := code x.b - m.ofsB
    let c := code x.c - m.ofsC
    let d := code x.d - m.ofsD
    let e := code x.e - m.ofsE
    let f := code x.f - m.ofsF
    let f2 := (f * m.tbal + 128) / 256
    let sum := a + b + c + d
    let fr : Int := ((a + c : Nat) : Int) - ((b + d : Nat) : Int)
    let tr : Int := (e : Int) - (f2 : Int)
    let fen : Int :=
      if m.sumFloor ≤ sum ∧ 0 < sum then fr.sign * (((2 * (fr.natAbs * 4096) + sum) / (2 * sum) : Nat) : Int) else 0
    let ten : Int :=
      if m.sideFloor ≤ e + f2 ∧ 0 < e + f2 then
        tr.sign * (((2 * (tr.natAbs * 4096) + (e + f2)) / (2 * (e + f2)) : Nat) : Int)
      else 0
    let te := max (-4096) (min (ten + m.tofs) 4095)
    let level : Int := m.xingLevel
    let armed : ArmedSide := if level ≤ te then .high else if te ≤ -level then .low else s.dfe.armed
    let emitted : Option Dir :=
      if level ≤ te then (if s.dfe.armed = .low then some .inward else none)
      else if te ≤ -level ∧ s.dfe.armed = .high then some .outward
      else none
    (s.dfeStage x).dfe.armed = armed ∧ s.crossingOf x = emitted ∧
      ∃ t, exec (.servoSampleEvent x) s = .next t ∧
        t.dfe =
          { a := code x.a, b := code x.b, c := code x.c, d := code x.d, e := code x.e, f := code x.f, rfe := code x.rfe
            ax := acc x.ax, az := acc x.az, sum := sum, fe := max (-4096) (min (fen + m.fofs) 4095), te := te
            eDash := e, fDash := f, armed := t.dfe.armed } ∧
        ((t.dfe.armed = armed ∧ t.track.state = s.track.state) ∨ t.dfe.armed = .none)

/-- A calm sample in play, both loops CLOSED, the sled following and no drive at its limit: both loops compute, the sled
sums the tracking drive, the runs of the Disturbance Monitor are 0, and nothing else changes (R1, R25, R43, R54, R56,
R80). -/
def Obligations.CalmSampleInPlay : Prop :=
  ∀ (x : SampleInputs) (s : State),
    let v := s.seen x
    let f := s.focus.compute s.prm v.fe v.az
    let r := s.track.compute s.prm v.te v.ax
    s.rstnLow = false → s.Still → s.Calm x → s.mve.phase ≠ .measure → s.focus.state = .closed →
      s.track.state = .closed → s.slc.state = .trackingFollow → s.slc.followCount < 65535 →
      s.dmn.defect = .watching → s.prm.defLevel ≤ v.rfe → s.prm.sumFloor ≤ v.sum → 1 ≤ s.prm.flostN →
      f.drive ≠ -2048 → f.drive ≠ 2047 → r.drive ≠ -2048 → r.drive ≠ 2047 →
      exec (.servoSampleEvent x) s =
        .next
          { s with
            dfe := v, focus := f, track := r
            slc :=
              { s.slc with followSum := s.slc.followSum + r.drive, followCount := s.slc.followCount + 1 }
            dmn := { s.dmn with lowRun := 0, lossRun := 0, overloadRun := 0 } }

/-- The LPR stage of a CLOSED loop, in the nine steps of R25 and with the integrator of R26: focus on FE and AZ, tracking on
TE and AX, each with the gains of its set in use (R25, R26). A CLOSING tracking loop enters CLOSED, and reports it, where the
stage finds focus CLOSED and TE within CLOSE_LEVEL, and is left as it is otherwise (R35). That the armed side is NONE at
once, and that the close timer keeps its count, are the model's choices (notes/assumptions/41.md, 10.md). -/
def Obligations.ClosedLoopsCompute : Prop :=
  ∀ s : State,
    (s.focus.state = .closed →
      let t := s.focusStage
      let m := s.prm
      let g :=
        match s.focus.gains with
        | .normal => (m.fkpN, m.fkiN, m.fkdN)
        | .boost => (m.fkpB, m.fkiB, m.fkdB)
      t = { s with
            focus := { s.focus with drive := t.focus.drive, integ := t.focus.integ, ePrev := s.dfe.fe, resume := false } } ∧
        ClosedSampleLaw s.dfe.fe s.dfe.az g.1 g.2.1 g.2.2 m.ksF s.focus.integ
          (if s.focus.resume then s.dfe.fe else s.focus.ePrev) t.focus.drive t.focus.integ) ∧
    (∀ found, s.track.state = .closing →
      let closes := found = .closed ∧ (s.dfe.te.natAbs : Int) ≤ s.prm.closeLevel
      (closes →
          s.trackStage found =
            { s with
              track := { s.track with state := .closed, integ := 0, ePrev := s.dfe.te, resume := false }
              dfe := { s.dfe with armed := .none } } ∧
            (s.focus.state = found → s.lprReport = .trackingClosed)) ∧
        (¬closes → s.trackStage found = s ∧ (s.focus.state = found → s.lprReport ≠ .trackingClosed))) ∧
    ∀ found, s.track.state = .closed →
      let t := s.trackStage found
      let m := s.prm
      let g :=
        match s.track.gains with
        | .normal => (m.tkpN, m.tkiN, m.tkdN)
        | .boost => (m.tkpB, m.tkiB, m.tkdB)
      t = { s with
            track := { s.track with drive := t.track.drive, integ := t.track.integ, ePrev := s.dfe.te, resume := false } } ∧
        ClosedSampleLaw s.dfe.te s.dfe.ax g.1 g.2.1 g.2.2 m.ksT s.track.integ
          (if s.track.resume then s.dfe.te else s.track.ePrev) t.track.drive t.track.integ

/-- A SEARCH sample of the focus loop: the pull-in test comes first; without a pull-in the ramp is stepped and a sweep ended
at the lower end; a sweep that ends with FOCUS_TRIES reached opens both loops (R33, R34). That a pull-in keeps the previous
search FE and that a sweep ends at minus SEARCH_SPAN whichever way the ramp went are the model's choices
(notes/assumptions/27.md, 29.md). -/
def Obligations.SearchSampleStepsOrPullsIn : Prop :=
  ∀ s : State, s.focus.state = .search →
    let m := s.prm
    let pullsIn := m.sumPullin ≤ s.dfe.sum ∧ ∃ p, s.focus.prevFe = some p ∧ s.dfe.fe * p ≤ 0
    let up := s.focus.ramp = .rising
    let d : Int :=
      if up then min (s.focus.drive + m.searchStep) m.searchSpan else max (s.focus.drive - m.searchStep) (-m.searchSpan)
    let ended := d = -(m.searchSpan : Int)
    let fails := ended ∧ m.focusTries ≤ s.focus.sweeps + 1
    (pullsIn →
        s.lprReport = .pulledIn ∧
          s.focusStage =
            { s with
              focus :=
                { s.focus with
                  state := .closed, integ := s.focus.drive * 1024, ePrev := s.dfe.fe, resume := false } }) ∧
      (¬pullsIn → ¬fails →
        s.lprReport = .none ∧
          s.focusStage =
            { s with
              focus :=
                { s.focus with
                  prevFe := some s.dfe.fe, drive := d
                  sweeps := if ended then s.focus.sweeps + 1 else s.focus.sweeps
                  ramp := if ended then .rising else if up ∧ d ≠ m.searchSpan then .rising else .falling } }) ∧
      (¬pullsIn → fails →
        s.lprReport = .searchFailed ∧ s.focusStage.focus.state = .opened ∧ s.focusStage.focus.drive = 0 ∧
          s.focusStage.focus.integ = 0 ∧ s.focusStage.focus.ePrev = 0 ∧ s.focusStage.track.state = .opened ∧
          s.focusStage.focus.sweeps = s.focus.sweeps + 1)

/-- A calm sample in START's search phase that finds enough light and a change of FE's sign pulls focus in, and START goes
on to its spin-up: the spindle enters ACCEL at full forward duty (R34, R66, R111). That the previous search FE is kept is the
model's choice (notes/assumptions/27.md). -/
def Obligations.PullInStartsSpinUp : Prop :=
  ∀ (x : SampleInputs) (s : State) (m : ActiveMove) (q : Int),
    let v := s.seen x
    s.rstnLow = false → s.Calm x → s.mve.active = some m → s.mve.phase = .search → s.focus.state = .search →
      s.focus.prevFe = some q → v.fe * q ≤ 0 → s.prm.sumPullin ≤ v.sum → s.track.state = .opened →
      s.slc.state ≠ .trackingFollow → s.spc.permit = true →
      s.spc.state = .stopped ∨ s.spc.state = .rundown ∨ s.spc.state = .coast ∨ s.spc.state = .braking →
      s.dmn.defect = .watching → s.prm.defLevel ≤ v.rfe → s.prm.sumFloor ≤ v.sum → 1 ≤ s.prm.flostN →
      s.focus.drive ≠ -2048 → s.focus.drive ≠ 2047 →
      exec (.servoSampleEvent x) s =
        .next
          { s with
            dfe := v
            focus :=
              { s.focus with state := .closed, integ := s.focus.drive * 1024, ePrev := v.fe, resume := false }
            mve := { s.mve with phase := .spinUp }
            spc :=
              { s.spc with
                state := .accel, dir := .fwd, duty := 255, inRun := 0, outRun := 0
                spinTimer := { count := 0, running := true } }
            dmn := { s.dmn with lowRun := 0, lossRun := 0, overloadRun := 0 } }

/-- A calm sample that ends START's last sweep without a pull-in fails the search: both loops OPEN, the laser off, the sled
and the spindle ordered to stop, the drive FAULTED with a FOCUS_FAIL record, and the move's result FAULT in its port's store;
stated for a lone move of Port D (R34, R106, R112, R132, R164, R165). That SEARCH_FAILED is the whole sample is the model's
choice (notes/assumptions/6.md). -/
def Obligations.SearchFailureFaultsStart : Prop :=
  ∀ (x : SampleInputs) (s : State) (m : ActiveMove),
    let v := s.seen x
    s.rstnLow = false → s.Calm x → s.LoneMove m → m.kind = .start → s.mve.phase = .search → s.dsv.drive = .starting →
      s.dsv.record = none → s.arb.mark = none → s.pifD.older = none → s.focus.state = .search →
      s.track.state = .opened → s.slc.state ≠ .trackingFollow → s.focus.ramp = .falling →
      s.focus.drive - s.prm.searchStep ≤ -(s.prm.searchSpan : Int) →
      v.sum < s.prm.sumPullin → s.prm.focusTries ≤ s.focus.sweeps + 1 → s.dmn.defect = .watching →
      1 ≤ s.prm.flostN →
      ∃ t, exec (.searchFailed x) s = .next t ∧ exec (.servoSampleEvent x) s = .next t ∧
        t = { s with
              dfe := t.dfe, focus := t.focus, track := t.track
              dmn := { s.dmn with lowRun := 0, lossRun := 0, overloadRun := 0 }
              spc := s.brakeOrder.spc, slc := s.sledStop.slc, pru := t.pru, mve := t.mve
              arb := { s.arb with queueD := [], source := .none, claim := .none }
              dsv := t.dsv, pifP := t.pifP, pifD := t.pifD } ∧
        t.focus.state = .opened ∧ t.focus.drive = 0 ∧ t.track.state = .opened ∧ t.track.drive = 0 ∧
        t.dsv =
          { s.dsv with
            drive := .faulted, laser := false, recovery := .none
            record :=
              some
                { kind := .focusFail, drive := .starting
                  active := some { port := .portD, ticket := m.ticket, kind := .start }
                  trackIndex := s.pru.trackIndex, period := s.spc.tm } } ∧
        t.mve.active = none ∧ t.mve.phase = .none ∧ t.pru.anchor = none ∧
        t.pifD.older =
          some
            { port := .portD, ticket := m.ticket, kind := .start, urgent := false, chained := m.chain, outcome := .fault
              trackIndex := s.pru.trackIndex, anchorBlock := none, corrections := s.mve.corrections
              elapsed := s.mve.elapsed, last := true, measured := none } ∧
        t.pifP.flags = (s.pifP.flags ||| Notice.fault.flag ||| Notice.driveState.flag) ∧
        t.pifD.flags = (s.pifD.flags ||| Notice.fault.flag ||| Notice.driveState.flag ||| Notice.result.flag)

/-- A dark calm sample that completes the low run, with both loops CLOSED in play, begins a defect: the loops compute and are
then HELD with the drives just computed, and DEFECT is counted (R15, R28, R43, R44). That the armed side is NONE at once, and
not from the next sample, is the model's choice (notes/assumptions/41.md). -/
def Obligations.DefectBeginsHold : Prop :=
  ∀ (x : SampleInputs) (s : State),
    let v := s.seen x
    let f := s.focus.compute s.prm v.fe v.az
    let r := s.track.compute s.prm v.te v.ax
    s.rstnLow = false → s.Still → s.Calm x → s.mve.phase ≠ .measure → s.focus.state = .closed →
      s.track.state = .closed → s.slc.state = .trackingFollow → s.slc.followCount < 65535 →
      s.dmn.defect = .watching → v.rfe < s.prm.defLevel → s.prm.defOn ≤ s.dmn.lowRun + 1 →
      s.dmn.lossRun < s.prm.flostN → f.drive ≠ -2048 → f.drive ≠ 2047 → r.drive ≠ -2048 → r.drive ≠ 2047 →
      exec (.servoSampleEvent x) s =
        .next
          (({ s with
              dfe := { v with armed := .none }, focus := { f with state := .held }, track := { r with state := .held }
              slc :=
                { s.slc with followSum := s.slc.followSum + r.drive, followCount := s.slc.followCount + 1 }
              dmn :=
                { s.dmn with
                  defect := .holding, lowRun := 0, goodRun := 0, holdLength := 0, overloadRun := 0 } } : State).bump
            .defect)

/-- A dark calm sample that brings the hold length to DEF_MAX, with both loops HELD, ends the hold forcibly: both loops
CLOSED with their resume flags set and their drives kept, LONG_DEFECT counted, DEFECT_LONG on both ports, and the detector
BLOCKED (R29, R45, R46). That DEFECT_FORCED_END is the whole sample and that the armed side is NONE at once, and not from the
next sample, are the model's choices (notes/assumptions/6.md, 41.md). -/
def Obligations.DefectHoldEndsAtMaximum : Prop :=
  ∀ (x : SampleInputs) (s : State),
    let v := s.seen x
    s.rstnLow = false → s.Still → s.Calm x → s.mve.phase ≠ .measure → s.focus.state = .held → s.track.state = .held →
      s.dmn.defect = .holding → v.rfe < s.prm.defLevel → s.prm.defMax ≤ s.dmn.holdLength + 1 → 1 ≤ s.prm.defOff →
      s.prm.sumFloor ≤ v.sum → 1 ≤ s.prm.flostN → s.focus.drive ≠ -2048 → s.focus.drive ≠ 2047 →
      s.track.drive ≠ -2048 → s.track.drive ≠ 2047 →
      ∃ t, exec (.defectForcedEnd x) s = .next t ∧ exec (.servoSampleEvent x) s = .next t ∧
        t =
          (({ s with
              dfe := { v with armed := .none }, focus := { s.focus with state := .closed, resume := true }
              track := { s.track with state := .closed, resume := true }
              dmn :=
                { s.dmn with
                  defect := .blocked, lowRun := 0, goodRun := 0, holdLength := 0, lossRun := 0
                  overloadRun := 0 } } : State).bump .longDefect).raiseBoth .defectLong

/-- The shock judgement, in the six cases of its table (R31, R49); an acceleration code of -512 always makes a shock sample
(R12). -/
def Obligations.ShockWindowByTable : Prop :=
  ∀ s : State,
    let shock := s.prm.shockLevel ≤ s.dfe.ax.natAbs ∨ s.prm.shockLevel ≤ s.dfe.az.natAbs
    (s.prm.InRange → s.dfe.ax = -512 ∨ s.dfe.az = -512 → shock) ∧
      (shock → s.dmn.window = false →
        s.judgeShock =
          (({ s with
              dmn := { s.dmn with window := true, remaining := s.prm.shockHold }
              focus := { s.focus with gains := .boost }, track := { s.track with gains := .boost } } : State).bump
            .shock).raiseBoth .shock) ∧
      (shock → s.dmn.window = true → s.judgeShock = { s with dmn := { s.dmn with remaining := s.prm.shockHold } }) ∧
      (¬shock → s.dmn.window = false ∨ 0 < s.dmn.remaining → s.judgeShock = s) ∧
      (¬shock → s.dmn.window = true → s.dmn.remaining = 0 →
        s.judgeShock =
          { s with
            dmn := { s.dmn with window := false }, focus := { s.focus with gains := .normal }
            track := { s.track with gains := .normal } })

/-- A crossing event steps the track index and hands it to the spindle; one that carries CLOSED, below a burst, is also a
slip: counted, told to both ports, the anchor dropped and the mark cleared. One that carries another state is counted by a
jump or coarse phase: a jump of n tracks brakes at ceil(n/2) and is closed at n, and a coarse phase stops the sled at its
count and jumps 64 tracks; a holding jump is closed (R16, R38, R52, R53, R63, R84, R100, R108, R109, R117, R154). That a
holding jump's crossing is not entered in the crossings counted, that a coarse phase's direction stands in the jump
direction, that a stopped timer keeps its count, and that the armed side is NONE at once are the model's choices
(notes/assumptions/39.md, 43.md, 10.md, 41.md). -/
def Obligations.CrossingStepsIndexAndSlips : Prop :=
  ∀ (s : State) (d : Dir) (c : TrackState),
    let step : Int := match d with | .outward => 1 | .inward => -1
    let n := s.pru.trackIndex + step
    let t := s.crossing d c
    (s.NothingWaits → s.mve.phase = .none → s.mve.holdJump = .none → s.pru.anchor.isSome = true → -2048 ≤ n →
      n ≤ 21999 → s.pru.zones.startBlock n ≠ none → s.dmn.slips + 1 < s.prm.slipBurst →
      t.pru.trackIndex = n ∧ t.spc = { s.spc with target := targetPeriod n s.prm.sf s.prm.kclv } ∧
        (c ≠ .closed →
          t = { s with pru := t.pru, spc := t.spc } ∧ t.arb.mark = s.arb.mark ∧
            t.pru.anchor =
              s.pru.anchor.map (fun a => { a with estimated := (s.pru.zones.startBlock n).getD 0 })) ∧
        (c = .closed →
          t = { s with
                pru := { s.pru with trackIndex := n, anchor := none, run := 0 }, spc := t.spc
                arb := { s.arb with mark := none }, dmn := { s.dmn with slips := s.dmn.slips + 1 }
                ctb := { s.ctb with slip := s.ctb.slip + 1 }, pifP := t.pifP, pifD := t.pifD } ∧
            (∀ p, (t.pif p).flags.getLsbD 3 = true) ∧ (s.arb.mark.isSome = true → t.pifP.flags.getLsbD 8 = true))) ∧
      (c ≠ .closed →
        let u := s.moveIndex step
        let k := s.mve.crossings + 1
        let counted : Mve := { s.mve with crossings := k }
        let unarmed : Dfe := { s.dfe with armed := .none }
        let closing : TrackLoop :=
          { s.track with
            state := .closing, drive := 0, integ := 0, ePrev := 0, resume := false, kick := .none, closeTimer := 0 }
        let kick (r : Dir) : Int := match r with | .outward => (s.prm.kick : Int) | .inward => -(s.prm.kick : Int)
        (s.mve.active.isSome = true → s.mve.phase = .jump → s.track.state = .jumping →
            let half := 1 < s.mve.jumpSize ∧ k = (s.mve.jumpSize + 1) / 2
            (k = s.mve.jumpSize → s.lensTaken = true →
                t = { u with
                      track := closing, dfe := unarmed
                      mve :=
                        { counted with
                          jumpTimer := { s.mve.jumpTimer with running := false }, phase := .close, closeTries := 1
                          settling := false } }) ∧
              (k ≠ s.mve.jumpSize → half → s.track.kick = .kick →
                t = { u with
                      track := { s.track with kick := .brake, drive := -kick s.track.jumpDir }, mve := counted }) ∧
              (k ≠ s.mve.jumpSize → ¬half → t = { u with mve := counted })) ∧
          (s.mve.active.isSome = true → s.mve.phase = .coarse → s.track.state = .opened →
            (k = s.mve.coarseGoal → s.lensTaken = true →
                t = { u with
                      slc := s.sledStop.slc, dfe := unarmed
                      track :=
                        { s.track with
                          state := .jumping, drive := kick s.mve.jumpDir, integ := 0, ePrev := 0, resume := false
                          kick := .kick, jumpDir := s.mve.jumpDir }
                      mve :=
                        { s.mve with
                          seekTimer := { s.mve.seekTimer with running := false }, phase := .jump, jumpSize := 64
                          crossings := 0, jumpTimer := { count := 0, running := true }, settling := false } }) ∧
              (k ≠ s.mve.coarseGoal → t = { u with mve := counted })) ∧
          (s.mve.phase = .none → s.mve.holdJump = .jumping → s.track.state = .jumping → s.lensTaken = true →
            t = { u with
                  track := closing, dfe := unarmed
                  mve :=
                    { s.mve with
                      holdJump := .closing, holdTries := 1
                      holdTimer := { s.mve.holdTimer with running := false } } }))

/-! ### Hall edges -/

/-- A Hall edge of a LOCKED spindle that is not the sixth of its revolution: Tm, T and the duty accumulator are updated, an
edge within the wide window keeps the lock, and the sixth outside it in a row loses it (R61, R63, R67, R69). That the event
carries the microseconds since the last edge is the model's choice (notes/assumptions/3.md). -/
def Obligations.HallEdgeInLocked : Prop :=
  ∀ (us : Nat) (s : State), s.rstnLow = false → s.Still → s.spc.state = .locked → s.spc.edges + 1 < 6 →
    let tm := min (s.spc.edgeTimer + us) 65535
    let period := targetPeriod s.pru.trackIndex s.prm.sf s.prm.kclv
    let e : Int := (tm : Int) - period
    let da := (max 0 (min (s.spc.da + roundAway (e * s.prm.ksi) 64) 65535)).toNat
    let c : Spc :=
      { s.spc with
        tm := tm, edgeTimer := 0, silence := 0, target := period, da := da, duty := da / 256, dir := .fwd
        edges := s.spc.edges + 1 }
    (e.natAbs ≤ period * s.prm.lockWin / 128 → exec (.hallEdge us) s = .next { s with spc := { c with outRun := 0 } }) ∧
      (period * s.prm.lockWin / 128 < e.natAbs → s.spc.outRun + 1 < 6 →
        exec (.hallEdge us) s = .next { s with spc := { c with outRun := s.spc.outRun + 1 } }) ∧
      (period * s.prm.lockWin / 128 < e.natAbs → 6 ≤ s.spc.outRun + 1 →
        exec (.hallEdge us) s =
          .next
            ((({ s with
                spc :=
                  { c with
                    state := .locking, inRun := 0, outRun := 0, spinTimer := { count := 0, running := true } } } :
                State).bump .spinUnlock).raiseBoth .spin))

/-- The twelfth edge in a row within the lock window locks the spindle, and START's spin-up goes on to its close phase (R68,
R107, R111). That the event carries the microseconds since the last edge, and that the stopped spin timer keeps its count,
are the model's choices (notes/assumptions/3.md, 10.md). -/
def Obligations.TwelfthEdgeLocksAndCloses : Prop :=
  ∀ (us : Nat) (s : State) (m : ActiveMove), s.rstnLow = false → s.mve.active = some m → s.mve.phase = .spinUp →
    s.lensTaken = true → s.track.state = .opened → s.spc.state = .locking → s.spc.edges + 1 < 6 → s.spc.inRun = 11 →
    let tm := min (s.spc.edgeTimer + us) 65535
    let period := targetPeriod s.pru.trackIndex s.prm.sf s.prm.kclv
    let e : Int := (tm : Int) - period
    let da := (max 0 (min (s.spc.da + roundAway (e * s.prm.ksi) 64) 65535)).toNat
    e.natAbs ≤ period * s.prm.lockWin / 256 →
      exec (.hallEdge us) s =
        .next
          { s with
            spc :=
              { s.spc with
                state := .locked, tm := tm, edgeTimer := 0, silence := 0, target := period, da := da, duty := da / 256
                dir := .fwd, inRun := 0, outRun := 0, edges := s.spc.edges + 1
                spinTimer := { s.spc.spinTimer with running := false } }
            track :=
              { s.track with
                state := .closing, drive := 0, integ := 0, ePrev := 0, resume := false, kick := .none, closeTimer := 0 }
            dfe := { s.dfe with armed := .none }
            mve := { s.mve with phase := .close, closeTries := 1, settling := false } }

/-- The sixth Hall edge of a LOCKED spindle, within the wide window, emits a revolution event: in TRACKING with the loop
CLOSED the anchored record advances by one track, its revolutions rise, the slips of the revolution go, and a mean tracking
drive that reaches FOLLOW_LEVEL nudges the sled. The edge itself is judged against the target period of the track before the
advance (R61, R62, R63, R67, R69, R81, R83, R85). That the event carries the microseconds since the last edge is the model's
choice (notes/assumptions/3.md). -/
def Obligations.SixthEdgeIsRevolution : Prop :=
  ∀ (us : Nat) (s : State) (a : Anchor) (b : Nat), s.rstnLow = false → s.Still → s.spc.state = .locked →
    s.spc.edges = 5 → s.dsv.drive = .tracking → s.track.state = .closed → s.mve.active = none →
    s.mve.phase = .none → s.slc.state = .trackingFollow → 0 < s.slc.followCount → s.homePin = false →
    s.pru.anchor = some a → -2048 ≤ s.pru.trackIndex → s.pru.trackIndex < 21999 →
    s.pru.zones.startBlock (s.pru.trackIndex + 1) = some b →
    let mean := roundAway s.slc.followSum s.slc.followCount
    let c := { s.slc with followSum := 0, followCount := 0 }
    let tm := min (s.spc.edgeTimer + us) 65535
    let period := targetPeriod s.pru.trackIndex s.prm.sf s.prm.kclv
    let e : Int := (tm : Int) - period
    let da := (max 0 (min (s.spc.da + roundAway (e * s.prm.ksi) 64) 65535)).toNat
    e.natAbs ≤ period * s.prm.lockWin / 128 →
    exec (.hallEdge us) s =
      .next
        { s with
          spc :=
            { s.spc with
              tm := tm, edgeTimer := 0, silence := 0, edges := 0, da := da, duty := da / 256, dir := .fwd, outRun := 0
              target := targetPeriod (s.pru.trackIndex + 1) s.prm.sf s.prm.kclv }
          pru :=
            { s.pru with
              trackIndex := s.pru.trackIndex + 1, anchor := some { a with estimated := b }
              revs := min (s.pru.revs + 1) 65535 }
          dmn := { s.dmn with slips := 0 }
          slc :=
            if s.prm.followLevel ≤ mean.natAbs then
              { c with
                duty := mean.sign * s.prm.followDuty, nudgeTimer := { count := 0, running := true }
                nudgeLength := s.prm.followMs }
            else c }

/-- A coast order, and the brake order that can follow it (R72, R73): COAST differs from RUNDOWN in that a brake order is
taken from it; Hall edges change no state in COAST. That an edge carries the microseconds since the last one, and that the
stopped spin timer keeps its count, are the model's choices (notes/assumptions/3.md, 10.md). -/
def Obligations.CoastOrderTaken : Prop :=
  ∀ s : State,
    (s.spc.state = .accel ∨ s.spc.state = .locking ∨ s.spc.state = .locked ∨ s.spc.state = .braking ∨
        s.spc.state = .rundown →
      s.coastOrder =
        { s with
          spc :=
            { s.spc with
              state := .coast, duty := 0, dir := .fwd, inRun := 0, outRun := 0
              spinTimer := { s.spc.spinTimer with running := false } } }) ∧
      (s.spc.state = .coast ∨ s.spc.state = .stopped → s.coastOrder = s) ∧
      (s.spc.permit = true → s.spc.state = .coast →
        s.brakeOrder =
          { s with
            spc :=
              { s.spc with
                state := .braking, duty := 255, dir := .rev, inRun := 0, outRun := 0
                spinTimer := { s.spc.spinTimer with running := false } } }) ∧
      (s.spc.permit = true → s.spc.state = .rundown → s.brakeOrder = s) ∧
      (s.spc.state = .coast → ∀ us,
        (s.judgeEdge us).spc =
          { s.spc with
            tm := min (s.spc.edgeTimer + us) 65535, edgeTimer := 0, silence := 0
            target := targetPeriod s.pru.trackIndex s.prm.sf s.prm.kclv })

/-! ### Millisecond ticks -/

/-- The close timer's expiry in a close phase whose tries are below TRACK_TRIES gives the close command again, with a fresh
close timer and the tries one higher; the rows CLOSE_TIMEOUT and CLOSE_PHASE_RETRY both do so. A close that nothing waits for
leaves the tracking loop OPEN, and is no retry (R15, R23, R36, R107). That CLOSE_TIMEOUT and CLOSE_PHASE_RETRY are the same
event, and that CLOSE_PHASE_RETRY changes nothing where no close waits, is the model's choice (notes/assumptions/6.md), and
so is that the expired timer shows the count that expired it (notes/assumptions/10.md). -/
def Obligations.CloseTimeoutRetries : Prop :=
  ∀ s : State, s.rstnLow = false → s.Still → s.track.state = .closing → s.prm.closeTo ≤ s.track.closeTimer + 1 →
    let retried : State :=
      { s with
        track :=
          { s.track with drive := 0, integ := 0, ePrev := 0, resume := false, kick := .none, closeTimer := 0 }
        dfe := { s.dfe with armed := .none }, mve := { s.mve with closeTries := s.mve.closeTries + 1 } }
    (s.mve.settling = false → s.mve.phase = .close → s.mve.closeTries < s.prm.trackTries → s.lensTaken = true →
        exec .closeTimeout s = .next retried ∧ exec .closePhaseRetry s = .next retried) ∧
      (s.closeAwaited = false →
        exec .closePhaseRetry s = .next s ∧
          exec .closeTimeout s =
            .next
              { s with
                track :=
                  { s.track with
                    state := .opened, drive := 0, integ := 0, ePrev := 0, resume := false, kick := .none
                    closeTimer := s.track.closeTimer + 1 }
                dfe := { s.dfe with armed := .none } })

/-- The spin timer's expiry, with no move active and no entry waiting, stops the timer, latches SPIN_FAIL and performs a
fault stop, whose brake order then reaches the spindle. So does, with DRIVE_OVERLOAD, a run of saturated samples that reaches
OVERLOAD_N; a saturated sample below it is counted, and any other makes the run 0 (R56, R57, R70, R72, R157, R164, R165).
That an expired or stopped timer keeps its count is the model's choice (notes/assumptions/10.md). -/
def Obligations.SpinTimeoutStopsDrive : Prop :=
  ∀ s : State, s.NothingWaits → s.mve.active = none → s.spc.permit = true → s.dsv.drive ≠ .faulted →
    s.dsv.drive ≠ .powerHold → s.dsv.record = none →
    let stopped (u t : State) (k : FaultKind) : Prop :=
      t = { u with
            dfe := t.dfe, focus := t.focus, track := t.track, spc := t.spc, slc := s.sledStop.slc, pru := t.pru
            mve := t.mve, arb := { s.arb with mark := none }, dsv := t.dsv, pifP := t.pifP, pifD := t.pifD } ∧
      t.focus.state = .opened ∧ t.focus.drive = 0 ∧ t.track.state = .opened ∧ t.track.drive = 0 ∧
      t.spc =
        { s.spc with
          state := .braking, dir := .rev, duty := 255, inRun := 0, outRun := 0
          spinTimer := { u.spc.spinTimer with running := false } } ∧
      t.pru.anchor = none ∧ t.pru.trackIndex = s.pru.trackIndex ∧
      t.mve.active = none ∧ t.mve.holdJump = .none ∧ t.mve.settling = false ∧ t.mve.activity = .none ∧
      t.dsv =
        { s.dsv with
          drive := .faulted, laser := false, recovery := .none
          record :=
            some
              { kind := k, drive := s.dsv.drive, active := none, trackIndex := s.pru.trackIndex
                period := s.spc.tm } } ∧
      (∀ p, (t.pif p).flags.getLsbD 9 = true ∧ (t.pif p).flags.getLsbD 7 = true)
    let run := min (s.dmn.overloadRun + 1) 65535
    let limit (x : Int) : Prop := x = -2048 ∨ x = 2047
    (s.rstnLow = false → s.spc.state = .accel ∨ s.spc.state = .locking → s.spc.spinTimer.running = true →
        s.prm.spinTo ≤ s.spc.spinTimer.count + 1 →
        ∃ t, exec .spinTimeout s = .next t ∧
          stopped
            { s with spc := { s.spc with spinTimer := { count := s.spc.spinTimer.count + 1, running := false } } } t
            .spinFail) ∧
      (s.saturated = true ↔
        (limit s.focus.drive ∧ (s.focus.state = .closed ∨ s.focus.state = .held)) ∨
          (limit s.track.drive ∧ (s.track.state = .closed ∨ s.track.state = .held))) ∧
      (s.spc.state = .accel ∨ s.spc.state = .locking ∨ s.spc.state = .locked → s.prm.overloadN ≤ run →
        stopped { s with dmn := { s.dmn with overloadRun := 0 } } (s.judgeOverload true) .driveOverload) ∧
      (run < s.prm.overloadN →
        s.judgeOverload true = { s with dmn := { s.dmn with overloadRun := run } }) ∧
      s.judgeOverload false = { s with dmn := { s.dmn with overloadRun := 0 } }

/-- 200 ms without an edge while the disc runs out stop the spindle; a STOP in its spin-down then completes DONE, the drive
becomes IDLE, and its result stands in its port's store (R74, R105, R106, R113, R132). That an expired or stopped timer keeps
its count is the model's choice (notes/assumptions/10.md). -/
def Obligations.SpindleStoppedEndsStop : Prop :=
  ∀ s : State, s.rstnLow = false →
    s.spc.state = .braking ∨ s.spc.state = .rundown ∨ s.spc.state = .coast → 200 ≤ s.spc.silence + 1 →
    let c : Spc :=
      { s.spc with
        state := .stopped, duty := 0, dir := .fwd, da := 0, silence := 200
        spinTimer := { s.spc.spinTimer with running := false } }
    (s.mve.active = none → s.Still → exec .spindleStopped s = .next { s with spc := c }) ∧
      (∀ m, s.LoneMove m → m.kind = .stop → s.mve.phase = .spinDown → s.dsv.drive = .stopping → s.pru.anchor = none →
        s.arb.mark = none → s.pifD.older = none →
        ∃ t, exec .spindleStopped s = .next t ∧
          t = { s with
                spc := c, mve := t.mve, arb := { s.arb with queueD := [], source := .none, claim := t.arb.claim }
                dsv := { s.dsv with drive := .idle }
                pifP := { s.pifP with flags := s.pifP.flags ||| Notice.driveState.flag }, pifD := t.pifD } ∧
          t.arb.claim = (if m.chain then .queueD else .none) ∧ t.mve.active = none ∧ t.mve.phase = .none ∧
          t.pifD =
            { s.pifD with
              flags := s.pifD.flags ||| Notice.driveState.flag ||| Notice.result.flag
              older :=
                some
                  { port := .portD, ticket := m.ticket, kind := .stop, urgent := false, chained := m.chain
                    outcome := .done, trackIndex := s.pru.trackIndex, anchorBlock := none
                    corrections := s.mve.corrections, elapsed := s.mve.elapsed, last := true, measured := none } })

/-- The homing timer's expiry leaves the sled UNKNOWN, at rest and not homed; in the homing phase of a move it is the fault
SLED_STUCK with a fault stop (R78, R112, R114, R164, R165). That an expired or stopped timer keeps its count is the model's
choice (notes/assumptions/10.md). -/
def Obligations.SledStuckFaultsHoming : Prop :=
  ∀ s : State, s.rstnLow = false → s.slc.state = .homing → s.slc.homingTimer.running = true →
    s.prm.sledHomeTo ≤ s.slc.homingTimer.count + 1 →
    let c : Slc :=
      { s.slc with
        state := .unknown, duty := 0, homed := false
        homingTimer := { count := s.slc.homingTimer.count + 1, running := false } }
    (s.mve.active = none → s.Still → exec .sledStuck s = .next { s with slc := c }) ∧
      (∀ m, s.LoneMove m → s.mve.phase = .homing → s.dsv.drive = .starting ∨ s.dsv.drive = .stopping →
        s.dsv.record = none → s.arb.mark = none → s.pifD.older = none →
        ∃ t, exec .sledStuck s = .next t ∧
          t = { s with
                dfe := t.dfe, focus := t.focus, track := t.track, spc := s.brakeOrder.spc, slc := c, pru := t.pru
                mve := t.mve, arb := { s.arb with queueD := [], source := .none, claim := .none }, dsv := t.dsv
                pifP := t.pifP, pifD := t.pifD } ∧
          t.focus.state = .opened ∧ t.track.state = .opened ∧ t.mve.active = none ∧ t.pru.anchor = none ∧
          t.dsv =
            { s.dsv with
              drive := .faulted, laser := false, recovery := .none
              record :=
                some
                  { kind := .sledStuck, drive := s.dsv.drive
                    active := some { port := .portD, ticket := m.ticket, kind := m.kind }
                    trackIndex := s.pru.trackIndex, period := s.spc.tm } } ∧
          t.pifD.older.map (fun r => (r.ticket, r.kind, r.outcome, r.last)) = some (m.ticket, m.kind, .fault, true))

/-- A jump, a coarse phase or a measurement that times out gives the close and enters a close phase with one try; the
timed-out flag is set, but for the jump and coarse phases of a seek by block, and a coarse phase stops the sled (R35, R108,
R109, R121, R126). That an expired or stopped timer keeps its count is the model's choice (notes/assumptions/10.md). -/
def Obligations.TimedOutPhasesClose : Prop :=
  ∀ (s : State) (m : ActiveMove), s.rstnLow = false → s.mve.active = some m → s.lensTaken = true →
    s.track.state ≠ .closing →
    let closing : TrackLoop :=
      { s.track with
        state := .closing, drive := 0, integ := 0, ePrev := 0, resume := false, kick := .none, closeTimer := 0 }
    let seeks := m.kind = .seekBlock ∨ m.kind = .resumeMark
    let after (v : Mve) : State :=
      { s with
        track := closing, dfe := { s.dfe with armed := .none }
        mve := { v with phase := .close, closeTries := 1, settling := false } }
    let flag := if seeks then s.mve.timedOut else true
    (s.mve.phase = .jump → s.mve.jumpTimer.running = true → 5 + s.mve.jumpSize ≤ s.mve.jumpTimer.count + 1 →
        exec .jumpTimeout s =
          .next
            (after
              { s.mve with
                jumpTimer := { count := s.mve.jumpTimer.count + 1, running := false }, timedOut := flag })) ∧
      (s.mve.phase = .coarse → s.mve.seekTimer.running = true → s.prm.seekTo ≤ s.mve.seekTimer.count + 1 →
        exec .seekTimeout s =
          .next
            { after
                { s.mve with
                  seekTimer := { count := s.mve.seekTimer.count + 1, running := false }, timedOut := flag } with
              slc := s.sledStop.slc }) ∧
      (s.mve.phase = .measure → s.mve.gapTimer.running = true → 1000 ≤ s.mve.gapTimer.count + 1 →
        exec .revolutionGapTimeout s =
          .next
            (after
              { s.mve with
                gapTimer := { count := s.mve.gapTimer.count + 1, running := false }, timedOut := true }))

/-- The standing hold: a revolution event in HOLDING, with nothing in flight and the tracking loop CLOSED, starts a holding
jump of one track INWARD with its own timer; a holding jump that reaches 6 ms is closed, with one try. A focus loss in
HOLDING or TRACKING, with no move active, counts, tells both ports, and starts a recovery by a search; "tracking lost" there
starts one by a close; either ends a holding jump and a settling close with no report. The close of a recovery that succeeds
ends it in TRACKING (R37, R54, R55, R117, R133, R157, R162, R163). That an expired or stopped timer keeps its count, that the
loops stand as commanded at once, and that a command takes SEARCH_SPAN and KICK as they stand at it, are the model's choices
(notes/assumptions/10.md, 8.md, 40.md). -/
def Obligations.HoldingJumpStartsAndTimesOut : Prop :=
  ∀ s : State, s.lensTaken = true →
    (s.dsv.drive = .holding → s.mve.active = none → s.mve.phase = .none → s.mve.holdJump = .none →
        s.mve.activity = .none → s.track.state = .closed →
        s.mveRevolution =
          { s with
            track :=
              { s.track with
                state := .jumping, drive := -(s.prm.kick : Int), integ := 0, ePrev := 0, resume := false
                kick := .kick, jumpDir := .inward }
            dfe := { s.dfe with armed := .none }
            mve :=
              { s.mve with holdJump := .jumping, holdTimer := { count := 0, running := true }, settling := false } }) ∧
      (s.rstnLow = false → s.mve.holdJump = .jumping → s.mve.holdTimer.running = true →
        6 ≤ s.mve.holdTimer.count + 1 → s.track.state = .jumping →
        exec .holdingJumpTimeout s =
          .next
            { s with
              track :=
                { s.track with
                  state := .closing, drive := 0, integ := 0, ePrev := 0, resume := false, kick := .none
                  closeTimer := 0 }
              dfe := { s.dfe with armed := .none }
              mve :=
                { s.mve with
                  holdJump := .closing, holdTries := 1
                  holdTimer := { count := s.mve.holdTimer.count + 1, running := false } } }) ∧
      (s.dsv.drive = .tracking ∨ s.dsv.drive = .holding → s.mve.active = none →
        let recovers (u t : State) (k : Recovery) (a : Activity) : Prop :=
          t = { u with
                focus := t.focus, track := t.track, dfe := t.dfe, slc := s.sledStop.slc, pru := t.pru, mve := t.mve
                arb := { s.arb with mark := none }
                dsv := { s.dsv with drive := .recovering, recovery := k }, pifP := t.pifP, pifD := t.pifD } ∧
          t.pru.anchor = none ∧ t.pru.trackIndex = s.pru.trackIndex ∧ t.mve.activity = a ∧ t.mve.holdJump = .none ∧
          t.mve.settling = false ∧ t.mve.active = none ∧ (∀ p, (t.pif p).flags.getLsbD 7 = true)
        (s.dfe.sum < s.prm.sumFloor → s.prm.flostN ≤ s.dmn.lossRun + 1 →
            let t := s.judgeFocusLoss .closed
            recovers
                { s with
                  dmn := { s.dmn with lossRun := 0 }, ctb := { s.ctb with focusLost := s.ctb.focusLost + 1 } }
                t .focus .search ∧
              t.focus =
                { s.focus with
                  state := .search, drive := -(s.prm.searchSpan : Int), integ := 0, ePrev := 0, resume := false
                  ramp := .rising, sweeps := 0, prevFe := none } ∧
              t.track.state = .opened ∧ t.track.drive = 0 ∧ (∀ p, (t.pif p).flags.getLsbD 2 = true)) ∧
          (let t := s.trackingLost
          recovers s t .tracking .close ∧ t.focus = s.focus ∧ t.mve.closeTries = 1 ∧
            t.track =
              { s.track with
                state := .closing, drive := 0, integ := 0, ePrev := 0, resume := false, kick := .none
                closeTimer := 0 })) ∧
      (s.dsv.drive = .recovering → s.mve.activity = .close → s.mve.settling = false → s.mve.phase = .none →
        s.mve.holdJump = .none →
        s.takeReport .trackingClosed =
          ({ s with
              mve := { s.mve with activity := .none }
              dsv := { s.dsv with drive := .tracking, recovery := .none } } : State).raiseBoth .driveState)

/-- An address wait that expires with corrections left and the spot already on the aim's track counts a correction and waits
anew without motion; with none left the seek completes NO_ADDRESS, and SEEK_MISS rises (R122, R124). That the expiry is a row
of its own is the model's choice (notes/assumptions/4.md). -/
def Obligations.AddressWaitExpires : Prop :=
  ∀ (s : State) (m : ActiveMove), s.rstnLow = false → s.mve.phase = .addressWait → s.mve.waitTimer.running = true →
    s.mve.waitLimit ≤ s.mve.waitTimer.count + 1 →
    let aim := max (s.mve.target - s.prm.seekWin / 2) s.pru.zones.firstBlock
    (s.mve.active = some m → s.mve.corrections < s.prm.seekCorr → s.pru.zones.inRange s.mve.target = true →
        s.pru.zones.trackOf aim = some s.pru.trackIndex →
        exec .addressWaitExpiry s =
          .next
            (({ s with
                mve :=
                  { s.mve with
                    corrections := s.mve.corrections + 1, aim := aim, waitLimit := max s.prm.addrWait 20
                    waitTimer := { count := 0, running := true } } } : State).bump .seekCorrection)) ∧
      (s.LoneMove m → m.kind = .seekBlock → s.prm.seekCorr ≤ s.mve.corrections → s.dsv.drive = .moving →
        s.mve.returnState = some .tracking → s.pifD.older = none →
        ∃ t, exec .addressWaitExpiry s = .next t ∧
          t = { s with
                mve := t.mve, arb := { s.arb with queueD := [], source := .none, claim := .none }
                dsv := { s.dsv with drive := .tracking }, ctb := { s.ctb with seekMiss := s.ctb.seekMiss + 1 }
                pifP := t.pifP, pifD := t.pifD } ∧
          t.mve.active = none ∧ t.mve.phase = .none ∧
          t.pifD.older =
            some
              { port := .portD, ticket := m.ticket, kind := .seekBlock, urgent := false, chained := m.chain
                outcome := .noAddress, trackIndex := s.pru.trackIndex
                anchorBlock := s.pru.anchor.map (·.block), corrections := s.mve.corrections
                elapsed := s.mve.elapsed, last := true, measured := none })

/-- The shock window's remaining time falls by 1 at a tick while it is above 0, and closes nothing; the elapsed time of an
active move rises by 1, up to 65,535; a nudge that reaches its length ends with the sled duty 0 (R50, R81, R103). Where an
event's condition does not hold it changes nothing: that is the model's choice (notes/assumptions/5.md), and so are the rows
of the two owners' own ticks and the count that the ended nudge timer shows (notes/assumptions/4.md, 10.md). -/
def Obligations.CountdownsAndNudge : Prop :=
  ∀ s : State, s.rstnLow = false →
    (s.dmn.window = true → 0 < s.dmn.remaining →
        exec .shockTimeCountdown s = .next { s with dmn := { s.dmn with remaining := s.dmn.remaining - 1 } }) ∧
      (s.dmn.window = false ∨ s.dmn.remaining = 0 → exec .shockTimeCountdown s = .next s) ∧
      (s.mve.active.isSome = true →
        exec .elapsedTimeTick s = .next { s with mve := { s.mve with elapsed := min (s.mve.elapsed + 1) 65535 } }) ∧
      (s.mve.active = none → exec .elapsedTimeTick s = .next s) ∧
      (s.slc.nudgeTimer.running = true → s.slc.nudgeLength ≤ s.slc.nudgeTimer.count + 1 →
        exec .nudgeEnd s =
          .next
            { s with
              slc :=
                { s.slc with
                  duty := 0, nudgeTimer := { count := s.slc.nudgeTimer.count + 1, running := false } } }) ∧
      (s.slc.nudgeTimer.running = false ∨ s.slc.nudgeTimer.count + 1 < s.slc.nudgeLength →
        exec .nudgeEnd s = .next s)

/-- A millisecond tick advances every running timer that does not reach its limit at it, and touches nothing else: the close
timer in CLOSING, the spin timer in ACCEL and LOCKING, the silence timer up to 200, and the sled's and the Move Engine's
timers (R36, R70, R74, R78, R81, R108, R109, R117, R122, R126). That the tick leaves a timer that reaches its limit to the
row of its expiry, so that the silence timer of a disc that runs out stays at 199, and leaves the shock window and the
elapsed time to rows of their own, is the model's choice (notes/assumptions/4.md). -/
def Obligations.MillisecondTickAdvancesTimers : Prop :=
  ∀ s : State, s.rstnLow = false →
    let adv (t : Timer) (limit : Nat) : Timer :=
      if t.running = true ∧ t.count + 1 < limit then { t with count := t.count + 1 } else t
    ∃ t, exec .millisecondTick s = .next t ∧
      t = { s with
            track := { s.track with closeTimer := t.track.closeTimer }
            spc := { s.spc with silence := t.spc.silence, spinTimer := t.spc.spinTimer }
            slc := { s.slc with homingTimer := t.slc.homingTimer, nudgeTimer := t.slc.nudgeTimer }
            mve :=
              { s.mve with
                jumpTimer := t.mve.jumpTimer, seekTimer := t.mve.seekTimer, waitTimer := t.mve.waitTimer
                gapTimer := t.mve.gapTimer, holdTimer := t.mve.holdTimer } } ∧
      t.track.closeTimer =
        (if s.track.state = .closing ∧ s.track.closeTimer + 1 < s.prm.closeTo then s.track.closeTimer + 1
        else s.track.closeTimer) ∧
      (s.spc.state = .braking ∨ s.spc.state = .rundown ∨ s.spc.state = .coast →
        s.spc.silence < 200 → t.spc.silence = min (s.spc.silence + 1) 199) ∧
      (s.spc.state = .accel ∨ s.spc.state = .locking ∨ s.spc.state = .locked ∨ s.spc.state = .stopped →
        t.spc.silence = min (s.spc.silence + 1) 200 ) ∧
      t.spc.spinTimer =
        (if s.spc.state = .accel ∨ s.spc.state = .locking then adv s.spc.spinTimer s.prm.spinTo else s.spc.spinTimer) ∧
      t.slc.homingTimer = adv s.slc.homingTimer s.prm.sledHomeTo ∧
      t.slc.nudgeTimer = adv s.slc.nudgeTimer s.slc.nudgeLength ∧
      t.mve.jumpTimer = adv s.mve.jumpTimer (5 + s.mve.jumpSize) ∧
      t.mve.seekTimer = adv s.mve.seekTimer s.prm.seekTo ∧ t.mve.waitTimer = adv s.mve.waitTimer s.mve.waitLimit ∧
      t.mve.gapTimer = adv s.mve.gapTimer 1000 ∧ t.mve.holdTimer = adv s.mve.holdTimer 6

/-! ### Input lines -/

/-- HOME becoming active completes a homing, and START goes on to its search; in any other sled state it takes away a
negative duty. HOME becoming inactive changes no state but the line's own level (R76, R78, R87, R111). That a row which
brings no change of level changes nothing is the model's choice (notes/assumptions/5.md), and so are that the stopped homing
timer keeps its count and that the search takes SEARCH_SPAN as it stands at the command (notes/assumptions/10.md, 40.md). -/
def Obligations.HomeSwitchActs : Prop :=
  ∀ s : State, s.rstnLow = false →
    (s.homePin = false → s.slc.state = .homing → s.pru.anchor = none → s.dsv.laser = true →
        ∀ m, s.mve.active = some m → m.kind = .start → s.mve.phase = .homing →
        ∃ t, exec (.homeSwitchChange true) s = .next t ∧
          t = { s with
                homePin := true, dfe := t.dfe, focus := t.focus, track := t.track
                spc := { s.spc with target := t.spc.target }
                slc :=
                  { s.slc with
                    state := .atHome, duty := 0, homed := true
                    homingTimer := { s.slc.homingTimer with running := false } }
                pru := { s.pru with trackIndex := s.prm.homeTrack }
                mve := { s.mve with phase := .search, settling := false } } ∧
          (s.pru.trackIndex ≠ s.prm.homeTrack →
            t.spc.target = targetPeriod s.prm.homeTrack s.prm.sf s.prm.kclv) ∧
          t.focus =
            { s.focus with
              state := .search, drive := -(s.prm.searchSpan : Int), integ := 0, ePrev := 0, resume := false
              ramp := .rising, sweeps := 0, prevFe := none } ∧
          t.track.state = .opened ∧ t.track.drive = 0) ∧
      (s.homePin = false → s.slc.state ≠ .homing → s.Still →
        exec (.homeSwitchChange true) s =
          .next { s with homePin := true, slc := { s.slc with duty := max 0 s.slc.duty } }) ∧
      (s.homePin = true → exec (.homeSwitchChange true) s = .next s) ∧
      exec (.homeSwitchChange false) s = .next { s with homePin := false }

/-- A LOWV assertion, in every state: the permit withdrawn and the driver cut, both loops OPEN, the laser off, all work in
flight ended, anchor and mark gone, and the drive POWER_HOLD. The queues stay; an active move leaves its queue with the
result POWER_DIP (R65, R106, R129, R167). -/
def Obligations.LowSupplyHolds : Prop :=
  ∀ s : State, s.rstnLow = false → s.lowvPin = false →
    ∃ t, exec .lowvAssertion s = .next t ∧
      t = { s with
            lowvPin := true, dfe := t.dfe, focus := t.focus, track := t.track, spc := t.spc, slc := s.sledStop.slc
            pru := t.pru, mve := t.mve, arb := t.arb, dsv := t.dsv, pifP := t.pifP, pifD := t.pifD } ∧
      t.focus.state = .opened ∧ t.focus.drive = 0 ∧ t.track.state = .opened ∧ t.track.drive = 0 ∧
      t.spc.permit = false ∧ t.spc.duty = 0 ∧ t.spindlePwm = 0 ∧
      t.spc.state = (if s.spc.state = .stopped then .stopped else .coast) ∧
      t.dsv = { s.dsv with lowv := true, laser := false, recovery := .none, drive := .powerHold } ∧
      t.mve.active = none ∧ t.mve.phase = .none ∧ t.mve.holdJump = .none ∧ t.mve.settling = false ∧
      t.mve.activity = .none ∧ t.pru.anchor = none ∧ t.pru.trackIndex = s.pru.trackIndex ∧
      (s.mve.active = none → t.arb = { s.arb with mark := none }) ∧
      (∀ m, s.LoneMove m → s.pifD.older = none →
        t.arb = { s.arb with queueD := [], source := .none, claim := .none, mark := none } ∧
          t.pifD.older.map (fun r => (r.ticket, r.kind, r.outcome)) = some (m.ticket, m.kind, .powerDip))

/-- A LOWV release with no entry waiting grants the permit to a clamped disc and sets the drive state by the record and the
clamp; nothing is restarted (R157, R168). -/
def Obligations.LowSupplyReleased : Prop :=
  ∀ s : State, s.rstnLow = false → s.lowvPin = true → s.NothingWaits → s.dsv.drive = .powerHold →
    s.pru.anchor = none → s.arb.mark = none →
    exec .lowvRelease s =
      .next
        (({ s with
            lowvPin := false
            spc := { s.spc with permit := if s.dsv.clamp = .clamped then true else s.spc.permit }
            dsv :=
              { s.dsv with
                lowv := false
                drive :=
                  if s.dsv.record ≠ none then .faulted else if s.dsv.clamp = .clamped then .idle else .noDisc } } :
            State).raiseBoth .driveState)

/-- A select line: its assertion begins a new request frame on a released port; its release discards a partial request, and a
response of which a part is unsent. Data-out carries 00h while a request frame comes in, then the two fillers, STATUS, LEN and
the payload words, high byte first, and 00h beyond them; it is not driven on a released port or while RSTN is low
(R185, R186, R196). That an assertion while RSTN is low is disregarded is the model's choice (notes/assumptions/26.md), and so are
that one on a port already selected changes nothing (notes/assumptions/5.md), the count of bytes that the phase of a responding
port carries, and that a response sent to its end stays held after the release (notes/assumptions/7.md). -/
def Obligations.SelectLineFrames : Prop :=
  ∀ (p : Port) (s : State),
    ((∀ k, (s.pif p).phase ≠ .responding k) →
        exec (.selectChange p false) s = .next (s.setPif p { s.pif p with phase := .released })) ∧
      (∀ k r, (s.pif p).phase = .responding k → (s.pif p).response = some r →
        let payload : List Byte := r.payload.flatMap (fun w => [Word.hi w, Word.lo w])
        exec (.selectChange p false) s =
            .next
              (s.setPif p
                { s.pif p with
                  phase := .released, response := if k < 4 + payload.length then none else some r }) ∧
          (s.rstnLow = false →
            (k < 2 → s.dataOut p = some 0) ∧ (k = 2 → s.dataOut p = some (BitVec.ofNat 8 r.status.code)) ∧
              (k = 3 → s.dataOut p = some (BitVec.ofNat 8 r.payload.length)) ∧
              (4 ≤ k → s.dataOut p = some (payload.getD (k - 4) 0)))) ∧
      (s.rstnLow = false → (s.pif p).phase = .awaiting ∨ (s.pif p).phase = .partialFrame → s.dataOut p = some 0) ∧
      (s.rstnLow = true ∨ (s.pif p).phase = .released → s.dataOut p = none) ∧
      ((s.pif p).phase = .released →
        exec (.selectChange p true) s =
          .next (s.setPif p { s.pif p with phase := if s.rstnLow then .disregarded else .awaiting })) ∧
      ((s.pif p).phase ≠ .released → exec (.selectChange p true) s = .next s)

/-! ### Requests: the judgement by the port -/

/-- What the port itself makes of a request, whatever the CODE: disregarded where the port does not listen, with its clocks
shifting out as many bytes of the response where the port responds; a partial request; and the refusals BAD_LENGTH, UNKNOWN,
NOT_THIS_PORT and BAD_LENGTH in the order of R189. No refusal changes any other state (R185, R186, R188, R189, R190). That a
request comes as a whole row is the model's choice, and with it that a row is disregarded whole where its port does not listen,
that a short one makes the port partial and does nothing else, and that a row clocks two bytes and two for each word while the
port responds (notes/assumptions/7.md). -/
def Obligations.PortJudgesRequests : Prop :=
  ∀ (i : Instr) (p : Port) (c : Byte) (f : Frame) (s : State), frameOf i = some (p, c, f) →
    (∀ q d g, i = .unknownCodeRequest q d g → knownCode d = false) →
    let foreign := (p = .portD ∧ c.toNat ∈ [0x40, 0x41, 0x42, 0x43]) ∨ (p = .portP ∧ c.toNat ∈ [0x39, 0x50, 0x51])
    (s.listens p = false → s.rstnLow = true ∨ (∀ k, (s.pif p).phase ≠ .responding k) → exec i s = .next s) ∧
      (∀ k, s.rstnLow = false → (s.pif p).phase = .responding k →
        exec i s = .next (s.setPif p { s.pif p with phase := .responding (k + (2 + 2 * f.words.length)) })) ∧
      (s.listens p = true → 130 < f.len.toNat →
        exec i s = .next (s.respond p { status := .badLength, payload := [] })) ∧
      (s.listens p = true → f.len.toNat ≤ 130 → f.words.length < f.len.toNat → exec i s = .next (s.partly p)) ∧
      (s.listens p = true → f.len.toNat ≤ 130 → f.len.toNat ≤ f.words.length →
        (knownCode c = false → exec i s = .next (s.respond p { status := .unknown, payload := [] })) ∧
          (foreign → exec i s = .next (s.respond p { status := .notThisPort, payload := [] })) ∧
          (¬foreign → ∀ n, (c.toNat, n) ∈ requestLengths → f.len.toNat ≠ n →
            exec i s = .next (s.respond p { status := .badLength, payload := [] })))

/-! ### Requests: the Pickup Arbiter -/

/-- A submission in line, accepted while the pickup is not free: it takes a ticket in 0..7 that its port holds nowhere, joins
the tail of its port's queue with its argument clamped, and is answered ACCEPTED with ticket, count and clamped flag; nothing
else changes (R135, R136, R137, R142). -/
def Obligations.SubmitJoinsQueue : Prop :=
  ∀ (p : Port) (f : Frame) (w h l : Word) (k : MoveKind) (s : State), s.listens p = true → Carries f [w, h, l] →
    MoveKind.ofCode (Word.hi w).toNat = some k → w.getLsbD 1 = false → ¬(p = .portD ∧ k = .resumeMark) →
    (s.queueOf p).length < 4 → s.pickupFree = false →
    let x : Int := (DWord.ofWords h l).toInt
    let arg : Option Int :=
      match k with
      | .jump => some (max (-64) (min x 64))
      | .seekTrack => some (max (-22000) (min x 22000))
      | .seekBlock => some (max 0 (min x 449999))
      | _ => none
    let clamped := match arg with | some a => decide (a ≠ x) | none => false
    ∃ n, n < 8 ∧ n ∉ s.heldTickets p ∧
      exec (.submit p f) s =
        .next
          (((s.setPif p { s.pif p with ticket := (n + 1) % 8 }).setQueue p
                (s.queueOf p ++ [{ ticket := n, kind := k, arg := arg, chain := w.getLsbD 0 }])).respond p
            { status := .accepted, payload := [bytesWord n ((s.queueOf p).length + 1), flagWord clamped] })

/-- The refusals of SUBMIT, in their order, each with no state changed: a kind outside the ten, RESUME_MARK from Port D and
an urgent submission from Port P, an urgent kind that is not STOP, PARK or HOLD, an occupied slot, a full queue
(R137, R188). -/
def Obligations.SubmitRefusedInOrder : Prop :=
  ∀ (p : Port) (f : Frame) (w h l : Word) (s : State), s.listens p = true → Carries f [w, h, l] →
    let refused (c : Status) : Prop := exec (.submit p f) s = .next (s.respond p { status := c, payload := [] })
    let urgent := w.getLsbD 1 = true
    (10 ≤ (Word.hi w).toNat → refused .badValue) ∧
      ∀ k, MoveKind.ofCode (Word.hi w).toNat = some k →
        let foreign := (p = .portD ∧ k = .resumeMark) ∨ (p = .portP ∧ urgent)
        let unfit := urgent ∧ k ≠ .stop ∧ k ≠ .park ∧ k ≠ .hold
        (foreign → refused .notThisPort) ∧ (¬foreign → unfit → refused .badValue) ∧
          (¬foreign → ¬unfit → urgent → s.arb.urgent ≠ none → refused .slotBusy) ∧
          (¬foreign → ¬urgent → 4 ≤ (s.queueOf p).length → refused .queueFull)

/-- A JUMP submitted from Port P in TRACKING with the pickup free and nothing waiting is granted at its arrival: it is the
active move, the drive MOVING with TRACKING to return to, the jump command given and the jump timer started; the anchor is
dropped and the mark kept (R37, R100, R103, R104, R105, R108, R119, R142, R147, R154). That the loop stands as commanded at
once, with KICK as it stands at the command, is the model's choice (notes/assumptions/8.md, 40.md). -/
def Obligations.SubmitJumpGranted : Prop :=
  ∀ (f : Frame) (w h l : Word) (s : State),
    let d : Int := (DWord.ofWords h l).toInt
    let n := s.nextTicket .portP
    s.listens .portP = true → Carries f [w, h, l] → Word.hi w = 5 → w.getLsbD 1 = false → -64 ≤ d → d ≤ 64 → d ≠ 0 →
      s.NothingWaits → s.arb.urgentWaiting = false → s.pickupFree = true → s.dsv.drive = .tracking →
      s.lensTaken = true → s.track.state = .closed → ¬(s.pifP.mode = .holdOff ∧ s.pifP.fill = 2) →
      s.arb.claim = .none →
      let dir : Dir := if d < 0 then .inward else .outward
      ∃ t : State, exec (.submit .portP f) s = .next t ∧
        t = { s with
              track :=
                { s.track with
                  state := .jumping, kick := .kick, jumpDir := dir, integ := 0, ePrev := 0, resume := false
                  drive := if d < 0 then -(s.prm.kick : Int) else s.prm.kick }
              dfe := { s.dfe with armed := .none }, pru := t.pru, mve := t.mve
              arb :=
                { s.arb with
                  queueP := [{ ticket := n, kind := .jump, arg := some d, chain := w.getLsbD 0 }]
                  source := .queueP, run := 0 }
              dsv := { s.dsv with drive := .moving }, pifP := t.pifP
              pifD := { s.pifD with flags := s.pifD.flags ||| Notice.driveState.flag } } ∧
        t.pru.anchor = none ∧ t.pru.trackIndex = s.pru.trackIndex ∧
        t.mve =
          { s.mve with
            active :=
              some
                { port := .portP, ticket := n, kind := .jump, arg := some d, urgent := false, chain := w.getLsbD 0 }
            returnState := some .tracking, phase := .jump, crossings := 0, jumpSize := d.natAbs, jumpDir := dir
            jumpTimer := { count := 0, running := true }, closeTries := 0, timedOut := false, corrections := 0
            measured := none, elapsed := 0, settling := false } ∧
        t.pifP =
          { s.pifP with
            ticket := (n + 1) % 8, flags := s.pifP.flags ||| Notice.driveState.flag
            phase := s.pifP.phase.taken
            response := some { status := .accepted, payload := [bytesWord n 1, 0] } }

/-- An urgent STOP on Port D while a Port P jump is active preempts it within the arrival: the jump ends ABORTED_URGENT in
Port P's store, PREEMPT rises, and the STOP is granted: both loops OPEN, the laser off, the spindle braked, SPIN_DOWN
(R113, R128, R138, R139, R144, R147). -/
def Obligations.UrgentStopPreempts : Prop :=
  ∀ (f : Frame) (w h l : Word) (m : ActiveMove) (e : Entry) (s : State), s.listens .portD = true →
    Carries f [w, h, l] → Word.hi w = 1 → w.getLsbD 1 = true → s.arb.urgent = none → s.arb.source = .queueP →
    s.arb.queueP = [e] → s.arb.queueD = [] → s.mve.active = some m → m.port = .portP → m.kind = .jump →
    m.urgent = false → s.dsv.drive = .moving → s.mve.returnState = some .tracking → s.mve.holdJump = .none →
    s.mve.activity = .none → s.spc.permit = true → s.spc.state = .locked → s.pifP.older = none →
    ∃ t : State, exec (.submit .portD f) s = .next t ∧
      t = { s with
            dfe := t.dfe, focus := t.focus, track := t.track, spc := s.brakeOrder.spc, slc := s.sledStop.slc
            pru := t.pru, mve := t.mve, arb := t.arb, dsv := { s.dsv with drive := .stopping, laser := false }
            pifP := t.pifP, pifD := t.pifD, ctb := { s.ctb with preempt := s.ctb.preempt + 1 } } ∧
      t.focus.state = .opened ∧ t.track.state = .opened ∧ t.spc.state = .braking ∧ t.pru.anchor = none ∧
      t.arb.queueP = [] ∧ t.arb.source = .urgent ∧ t.arb.urgentWaiting = false ∧ t.arb.mark = none ∧
      t.arb.urgent = some { ticket := s.nextTicket .portD, kind := .stop, arg := none, chain := w.getLsbD 0 } ∧
      t.mve.phase = .spinDown ∧ t.mve.settling = false ∧
      t.mve.active =
        some
          { port := .portD, ticket := s.nextTicket .portD, kind := .stop, arg := none, urgent := true
            chain := w.getLsbD 0 } ∧
      t.pifP.older =
        some
          { port := .portP, ticket := m.ticket, kind := .jump, urgent := false, chained := m.chain
            outcome := .abortedUrgent, trackIndex := s.pru.trackIndex
            anchorBlock := s.pru.anchor.map (·.block), corrections := s.mve.corrections, elapsed := s.mve.elapsed
            last := true, measured := none } ∧
      t.pifD.response =
        some { status := .accepted, payload := [bytesWord (s.nextTicket .portD) 0, 0] }

/-- A choice works until nothing more can be granted: after it the pickup is not free, or no step of R144 names a candidate
(R142). On this rests that the model may choose at the end of every event (notes/assumptions/24.md). -/
def Obligations.ChoiceLeavesNothingToGrant : Prop :=
  ∀ s : State, s.arbitrate.pickupFree = false ∨ s.arbitrate.candidate = none

/-- The candidate of a choice between two eligible heads without a chain claim is the policy's; an eligible claim below four
continuations comes first, but for a Port P claim under DECK_STRONG against an eligible Port D head; a waiting urgent entry
comes before all (R143, R144, R146). -/
def Obligations.ChoiceByUrgencyClaimAndPolicy : Prop :=
  ∀ (s : State) (a b : Entry) (qp qd : List Entry),
    let open' (v : Pif) : Prop := ¬(v.mode = .holdOff ∧ v.older.isSome = true ∧ v.newer.isSome = true)
    let fromP (n : Nat) : Candidate := { source := .queueP, entry := a, run := n }
    let fromD (n : Nat) : Candidate := { source := .queueD, entry := b, run := n }
    s.arb.queueP = a :: qp → s.arb.queueD = b :: qd →
      (∀ e, s.arb.urgentWaiting = true → s.arb.urgent = some e →
          s.candidate = some { source := .urgent, entry := e, run := 0 }) ∧
        (s.arb.urgentWaiting = false → open' s.pifP → open' s.pifD →
          (s.arb.claim = .none → s.arb.policy = .playFirst → s.candidate = some (fromP 0)) ∧
            (s.arb.claim = .none → s.arb.policy ≠ .playFirst → s.candidate = some (fromD 0)) ∧
            (s.arb.claim = .queueP → s.arb.policy ≠ .deckStrong → s.arb.run < 4 →
              s.candidate = some (fromP (s.arb.run + 1))) ∧
            (s.arb.claim = .queueP → s.arb.policy = .deckStrong → s.candidate = some (fromD 0)) ∧
            (s.arb.claim = .queueD → s.arb.run < 4 → s.candidate = some (fromD (s.arb.run + 1)))) ∧
        (s.arb.urgentWaiting = false → ¬open' s.pifP → open' s.pifD → s.arb.claim = .none →
          s.candidate = some (fromD 0)) ∧
        (s.arb.urgentWaiting = false → open' s.pifP → ¬open' s.pifD → s.arb.claim = .none →
          s.candidate = some (fromP 0)) ∧
        (s.arb.urgentWaiting = false → ¬open' s.pifP → ¬open' s.pifD → s.candidate = none)

/-- A FLUSH takes every entry of its own queue that is not active, drops its own claim, and tells QSPACE once for a queue
that was full; it leaves the active move running, and answers the oldest removed ticket and the number removed. With
abort-active it ends its own active jump ABORTED_FLUSH, with the drive back in its return state and a settling close given
(R128, R130, R135, R145, R149). -/
def Obligations.FlushRemovesWaiting : Prop :=
  ∀ (p : Port) (f : Frame) (w : Word) (s : State), s.listens p = true → Carries f [w] →
    let gone := s.waiting p
    let answer : Response :=
      { status := .ok, payload := [bytesWord ((gone.head?.map (·.ticket)).getD 0) gone.length] }
    (w.getLsbD 0 = false → s.pickupFree = false →
        ∃ t : State, exec (.flush p f) s = .next (t.respond p answer) ∧
          t = { s with arb := t.arb, pifP := t.pifP, pifD := t.pifD } ∧ t.pif (otherPort p) = s.pif (otherPort p) ∧
          t.queueOf (otherPort p) = s.queueOf (otherPort p) ∧ t.queueOf p = s.activeHead p ∧
          t.arb = { s.arb with queueP := t.arb.queueP, queueD := t.arb.queueD, claim := t.arb.claim } ∧
          (t.arb.claim ≠ s.arb.claim → t.arb.claim = .none) ∧ ¬(p = .portP ∧ t.arb.claim = .queueP) ∧
          ¬(p = .portD ∧ t.arb.claim = .queueD) ∧
          t.pif p =
            { s.pif p with
              flags :=
                if (s.queueOf p).length = 4 ∧ (s.activeHead p).length < 4 then (s.pif p).flags ||| Notice.qspace.flag
                else (s.pif p).flags }) ∧
      (w.getLsbD 0 = true → p = .portD →
        ∀ m, s.LoneMove m → m.kind = .jump → s.arb.urgentWaiting = false → s.dsv.drive = .moving →
        s.mve.returnState = some .tracking → s.lensTaken = true → s.pifD.older = none →
        ∃ t : State, exec (.flush p f) s = .next t ∧
          t = { s with
                track := t.track, dfe := t.dfe, slc := s.sledStop.slc, mve := t.mve
                arb := { s.arb with queueD := [], source := .none, claim := .none }
                dsv := { s.dsv with drive := .tracking }, pifP := t.pifP, pifD := t.pifD } ∧
          t.track.state = .closing ∧ t.track.closeTimer = 0 ∧ t.mve.active = none ∧ t.mve.settling = true ∧
          t.mve.settleTries = 1 ∧
          t.pifD.older.map (fun r => (r.ticket, r.kind, r.outcome, r.last)) =
            some (m.ticket, m.kind, .abortedFlush, true))

/-- RESET_PORT of a port that owns no active move, with the pickup not free, returns that port to its state after reset and
leaves the mechanism and the other port as they are. Of Port D, where its own jump is active and stands alone, it aborts the move
and stores no record: the drive goes back to its return state, and a settling close is given (R128, R130, R151, R183, R192). -/
def Obligations.ResetPortReturnsPort : Prop :=
  ∀ (p : Port) (f : Frame) (s : State), s.listens p = true → Carries f [] →
    (∀ m, p = .portD → s.LoneMove m → m.kind = .jump → s.arb.urgentWaiting = false → s.dsv.drive = .moving →
        s.mve.returnState = some .tracking → s.lensTaken = true →
        ∃ t : State, exec (.resetPort p f) s = .next t ∧
          t = { s with
                track := t.track, dfe := t.dfe, slc := s.sledStop.slc, mve := t.mve
                arb := { s.arb with queueD := [], source := .none, claim := .none }
                dsv := { s.dsv with drive := .tracking }
                pifP := { s.pifP with flags := s.pifP.flags ||| Notice.driveState.flag }
                pifD :=
                  { s.pifD with
                    older := none, newer := none, dropped := 0, mode := .holdOff, flags := 0, mask := 0
                    baselines := s.ctb, ticket := 0, phase := s.pifD.phase.taken
                    response := some { status := .ok, payload := [] } } } ∧
          t.track.state = .closing ∧ t.track.closeTimer = 0 ∧ t.mve.active = none ∧ t.mve.phase = .none ∧
          t.mve.settling = true ∧ t.mve.settleTries = 1) ∧
      (s.ownsActive p = false → s.pickupFree = false →
        ∃ t : State, exec (.resetPort p f) s = .next t ∧ t = { s with arb := t.arb, pifP := t.pifP, pifD := t.pifD } ∧
          t.pif (otherPort p) = s.pif (otherPort p) ∧
          t.pif p =
            { s.pif p with
              older := none, newer := none, dropped := 0, mode := .holdOff, flags := 0, mask := 0, baselines := s.ctb
              ticket := 0, phase := (s.pif p).phase.taken, response := some { status := .ok, payload := [] } } ∧
          t.queueOf p = [] ∧ t.queueOf (otherPort p) = s.queueOf (otherPort p) ∧
          t.arb.source = s.arb.source ∧ t.arb.policy = s.arb.policy ∧ t.arb.run = s.arb.run ∧
          (p = .portP → t.arb.mark = none ∧ t.arb.urgent = s.arb.urgent ∧ t.arb.claim ≠ .queueP) ∧
          (p = .portD → t.arb.mark = s.arb.mark ∧ t.arb.urgentWaiting = false ∧ t.arb.claim ≠ .queueD ∧
            (s.arb.urgentWaiting = true → t.arb.urgent = none)))

/-- SET_POLICY writes the policy and SET_PORT_MODE its own port's mode, from the codes of their sets; a change that can free
a head is followed by the choice; a code outside the set is refused with BAD_VALUE and keeps the value (R142, R146,
R174). -/
def Obligations.PolicyAndModeWritten : Prop :=
  ∀ (p : Port) (f : Frame) (w : Word) (s : State), Carries f [w] →
    (s.listens .portD = true →
        (∀ v, Policy.ofCode w.toNat = some v →
          exec (.setPolicy .portD f) s =
            .next
              (({ s with arb := { s.arb with policy := v } } : State).arbitrate.respond .portD
                { status := .ok, payload := [] })) ∧
          (3 ≤ w.toNat →
            exec (.setPolicy .portD f) s = .next (s.respond .portD { status := .badValue, payload := [] }))) ∧
      (s.listens p = true →
        (w = 0 →
          exec (.setPortMode p f) s =
            .next ((s.setPif p { s.pif p with mode := .holdOff }).respond p { status := .ok, payload := [] })) ∧
          (w = 1 →
            exec (.setPortMode p f) s =
              .next
                ((s.setPif p { s.pif p with mode := .overwrite }).arbitrate.respond p { status := .ok, payload := [] })) ∧
          (2 ≤ w.toNat →
            exec (.setPortMode p f) s = .next (s.respond p { status := .badValue, payload := [] })))

/-- MARK on an anchored record takes a block whose track lies within ANCHOR_TOL of the index, clamped to 449,999, and
answers it with its track; otherwise it is refused with NOT_READY and an earlier mark is kept. UNMARK clears the mark, with
no notice, and is answered OK (R152, R153, R189). -/
def Obligations.MarkSetAndCleared : Prop :=
  ∀ (f g : Frame) (h l : Word) (s : State), s.listens .portP = true → Carries f [h, l] → Carries g [] →
    let x := (DWord.ofWords h l).toNat
    let b := min x 449999
    (∀ n, s.pru.anchor.isSome = true → s.pru.zones.trackOf b = some n →
        (n - s.pru.trackIndex).natAbs ≤ s.prm.anchorTol →
        exec (.mark .portP f) s =
          .next
            (({ s with arb := { s.arb with mark := some { block := b, track := n } } } : State).respond .portP
              { status := if 449999 < x then .clamped else .ok, payload := wordsOf b ++ [wordOf n] })) ∧
      (s.pru.anchor = none ∨ s.pru.zones.trackOf b = none ∨
          (∃ n, s.pru.zones.trackOf b = some n ∧ s.prm.anchorTol < (n - s.pru.trackIndex).natAbs) →
        exec (.mark .portP f) s = .next (s.respond .portP { status := .notReady, payload := [] })) ∧
      exec (.unmark .portP g) s =
        .next
          (({ s with arb := { s.arb with mark := none } } : State).respond .portP { status := .ok, payload := [] })

/-! ### Requests: results, notices, counters -/

/-- GET_RESULTS returns the records held, OLDER first, with their number and the dropped count, and empties the store; a
store that was full in HOLD_OFF lets the Arbiter choose (R142, R171, R175, R195). -/
def Obligations.ResultsReadAndEmptied : Prop :=
  ∀ (p : Port) (f : Frame) (s : State), s.listens p = true → Carries f [] →
    let v := s.pif p
    let records := v.older.toList ++ v.newer.toList
    let t := s.setPif p { v with older := none, newer := none, dropped := 0 }
    let answer : Response :=
      { status := .ok
        payload :=
          bytesWord records.length v.dropped ::
            records.flatMap (fun r =>
              [bytesWord r.ticket
                  ((match r.port with | .portP => 0 | .portD => 1) + (if r.urgent then 2 else 0) +
                    (if r.chained then 4 else 0) + (if r.anchorBlock.isSome then 8 else 0) + (if r.last then 16 else 0) +
                    (if r.measured.isSome then 32 else 0)),
                bytesWord r.kind.code r.outcome.code, wordOf r.trackIndex] ++
                wordsOf ((r.anchorBlock.map (fun b => (b : Int))).getD 0) ++
                [wordOf r.corrections, wordOf r.elapsed, wordOf ((r.measured.map (fun b => (b : Int))).getD 0)]) }
    (¬(v.mode = .holdOff ∧ records.length = 2) → exec (.getResults p f) s = .next (t.respond p answer)) ∧
      (v.mode = .holdOff → records.length = 2 → exec (.getResults p f) s = .next (t.arbitrate.respond p answer))

/-- GET_NOTICES returns the port's twelve flags, whatever the mask, and clears them; SET_NOTICE_MASK writes the mask and
leaves the flags; the attention line is driven low exactly while a flag is set and enabled and RSTN is high; the other port's
flags, mask and line stay (R177, R178, R179, R193). -/
def Obligations.NoticesReadAndMasked : Prop :=
  ∀ (p : Port) (f g : Frame) (w : Word) (s : State), s.listens p = true → Carries f [] → Carries g [w] →
    (∃ t : State, exec (.getNotices p f) s = .next t ∧
        t = (s.setPif p { s.pif p with flags := 0 }).respond p
          { status := .ok, payload := [(s.pif p).flags.setWidth 16] } ∧
        t.attention p = false ∧ t.attention (otherPort p) = s.attention (otherPort p)) ∧
      (∃ t : State, exec (.setNoticeMask p g) s = .next t ∧
        t = (s.setPif p { s.pif p with mask := w.setWidth 12 }).respond p { status := .ok, payload := [] } ∧
        (t.attention p = true ↔ ∃ i < 12, (s.pif p).flags.getLsbD i = true ∧ w.getLsbD i = true) ∧
        t.attention (otherPort p) = s.attention (otherPort p))

/-- GET_COUNTERS returns the twelve views, each the difference from the port's baseline modulo 2 to the 32 and at most 65,535;
with clear set the port's baselines become the counters' values, so that every view of it is 0, and the other port's views stay
(R180, R181). -/
def Obligations.CountersReadAndCleared : Prop :=
  ∀ (p : Port) (f : Frame) (w : Word) (s : State), s.listens p = true → Carries f [w] →
    let view (u : State) (q : Port) (c : CounterId) : Nat := counterView (u.ctb.get c) ((u.pif q).baselines.get c)
    let answer : Response := { status := .ok, payload := CounterId.order.map (fun c => wordOf (view s p c)) }
    ∃ t : State, exec (.getCounters p f) s = .next (t.respond p answer) ∧
      t = s.setPif p { s.pif p with baselines := if w.getLsbD 0 then s.ctb else (s.pif p).baselines } ∧
      (∀ c, view s p c ≤ 65535 ∧
        ((s.ctb.get c - (s.pif p).baselines.get c).toNat ≤ 65535 →
          view s p c = (s.ctb.get c - (s.pif p).baselines.get c).toNat) ∧
        (65535 < (s.ctb.get c - (s.pif p).baselines.get c).toNat → view s p c = 65535)) ∧
      (w.getLsbD 0 = true → ∀ c, view t p c = 0) ∧ (∀ c, view t (otherPort p) c = view s (otherPort p) c)

/-- At each increment a counter rises by 1 and wraps at 32 bits, and COUNTER_HALF is raised on exactly the ports whose new
difference is 32,768; nothing else changes (R180, R182). -/
def Obligations.IncrementJudgesHalf : Prop :=
  ∀ (c : CounterId) (s : State),
    let t := s.bump c
    t = { s with ctb := t.ctb, pifP := t.pifP, pifD := t.pifD } ∧ t.ctb.get c = s.ctb.get c + 1 ∧
      (∀ d, d ≠ c → t.ctb.get d = s.ctb.get d) ∧
      ∀ p, t.pif p =
        { s.pif p with
          flags :=
            if (s.ctb.get c + 1 - (s.pif p).baselines.get c).toNat = 32768 then
              (s.pif p).flags ||| Notice.counterHalf.flag
            else (s.pif p).flags }

/-! ### Requests: reads, parameters, position, deck, fault -/

/-- GET_STATE returns the fields of the group that its code names, one word each in the layout of 10.7, and GET_PARAM a
parameter's identifier and value; both change nothing, and a code outside the set is refused with BAD_VALUE (R191, R195).
That an integrator is sent as the two's complement of 32 bits, that laser, LOWV state and permit read 1 for on, asserted and
granted, and that a read between two samples shows what a command has changed since are the model's choices
(notes/assumptions/11.md, 12.md, 8.md). -/
def Obligations.StateAndParamRead : Prop :=
  ∀ (p : Port) (f : Frame) (w : Word) (s : State), s.listens p = true → Carries f [w] →
    let flag (b : Bool) : Word := if b then 1 else 0
    let num (n : Nat) : Word := wordOf n
    let entry (e : Entry) (active : Bool) : Nat :=
      e.kind.code + (if e.chain then 16 else 0) + (if active then 32 else 0)
    let line (q : List Entry) (active : Bool) : List Word :=
      (List.range 4).map (fun n =>
        match q[n]? with
        | some e => bytesWord e.ticket (entry e (active && n == 0))
        | none => 0)
    let reads (ws : List Word) : Prop := exec (.getState p f) s = .next (s.respond p { status := .ok, payload := ws })
    (w = 0 →
        reads
          ([num s.focus.state.code, wordOf s.focus.drive] ++ wordsOf s.focus.integ ++
            [wordOf s.focus.ePrev, num s.focus.gains.code, flag s.focus.resume, num s.focus.ramp.code,
              num s.focus.sweeps, match s.focus.prevFe with | some x => wordOf x | none => 0x8000,
              num s.track.state.code, wordOf s.track.drive] ++ wordsOf s.track.integ ++
            [wordOf s.track.ePrev, num s.track.gains.code, flag s.track.resume, num s.track.kick.code,
              num s.track.jumpDir.code, num s.track.closeTimer])) ∧
      (w = 1 →
        reads
          [num s.dfe.a, num s.dfe.b, num s.dfe.c, num s.dfe.d, num s.dfe.e, num s.dfe.f, num s.dfe.rfe, wordOf s.dfe.ax,
            wordOf s.dfe.az, num s.dfe.sum, wordOf s.dfe.fe, wordOf s.dfe.te, num s.dfe.eDash, num s.dfe.fDash,
            num s.dfe.armed.code]) ∧
      (w = 2 →
        reads
          [num s.dmn.defect.code, num s.dmn.lowRun, num s.dmn.goodRun, num s.dmn.holdLength, flag s.dmn.window,
            num s.dmn.remaining, num s.dmn.slips, num s.dmn.lossRun, num s.dmn.overloadRun]) ∧
      (w = 3 →
        reads
          [num s.spc.state.code, num s.spc.dir.code, num s.spc.duty, num s.spc.da, num s.spc.tm, num s.spc.target,
            num s.spc.inRun, num s.spc.outRun, num s.spc.edges]) ∧
      (w = 4 → reads [num s.slc.state.code, wordOf s.slc.duty, flag s.slc.homed]) ∧
      (w = 5 →
        reads
          ([bytesWord s.arb.queueP.length s.arb.queueD.length] ++ line s.arb.queueP (s.arb.source = .queueP) ++
            line s.arb.queueD (s.arb.source = .queueD) ++
            [match s.arb.urgent with
              | some e => bytesWord e.ticket (entry e (s.arb.source = .urgent) + 64)
              | none => 0,
              num s.arb.source.code, num s.arb.claim.code, num s.arb.run, num s.arb.policy.code,
              flag s.arb.mark.isSome] ++
            wordsOf ((s.arb.mark.map (fun m => (m.block : Int))).getD 0) ++
            [wordOf ((s.arb.mark.map (fun m => m.track)).getD 0)])) ∧
      (w = 6 →
        reads
          [num s.dsv.drive.code, num s.dsv.clamp.code, flag s.dsv.laser, flag s.dsv.lowv, flag s.spc.permit,
            num s.dsv.recovery.code, num s.mve.phase.code, num s.mve.holdJump.code]) ∧
      (w = 7 →
        let v := s.pif p
        reads
          [num (v.older.toList.length + v.newer.toList.length), num v.mode.code, num v.dropped, num v.ticket,
            v.mask.setWidth 16]) ∧
      (8 ≤ w.toNat → exec (.getState p f) s = .next (s.respond p { status := .badValue, payload := [] })) ∧
      (∀ q, w.toNat = ParamId.code q →
        exec (.getParam p f) s = .next (s.respond p { status := .ok, payload := [w, wordOf (s.prm.get q)] })) ∧
      ((∀ q, w.toNat ≠ ParamId.code q) →
        exec (.getParam p f) s = .next (s.respond p { status := .badValue, payload := [] }))

/-- GET_POSITION, GET_FAULT and GET_ZONES return the position record, the fault record and the Zone Table in their layouts,
on either port, and change nothing (R93, R101, R166, R191, R195). -/
def Obligations.RecordsRead : Prop :=
  ∀ (p : Port) (f : Frame) (s : State), s.listens p = true → Carries f [] →
    let flag (b : Bool) (n : Nat) : Nat := if b then n else 0
    exec (.getPosition p f) s =
        .next
          (s.respond p
            { status := .ok
              payload :=
                [wordOf s.pru.trackIndex, bytesWord s.pru.run (flag s.pru.anchor.isSome 1 + flag s.slc.homed 2)] ++
                  wordsOf ((s.pru.anchor.map (fun a => (a.block : Int))).getD 0) ++
                  wordsOf ((s.pru.anchor.map (fun a => (a.estimated : Int))).getD 0) ++ [wordOf s.pru.revs] ++
                  wordsOf s.pru.zones.firstBlock ++ wordsOf s.pru.zones.endBlock }) ∧
      (s.dsv.record = none →
        exec (.getFault p f) s =
          .next (s.respond p { status := .ok, payload := [bytesWord (flag s.dsv.lost 2) 0, 0, 0, 0, 0] })) ∧
      (∀ r, s.dsv.record = some r →
        exec (.getFault p f) s =
          .next
            (s.respond p
              { status := .ok
                payload :=
                  [bytesWord (1 + flag s.dsv.lost 2 + flag r.active.isSome 4) r.kind.code,
                    bytesWord r.drive.code ((r.active.map (fun m => m.kind.code)).getD 0),
                    bytesWord ((r.active.map (fun m => match m.port with | .portP => 0 | .portD => 1)).getD 0)
                      ((r.active.map (fun m => m.ticket)).getD 0),
                    wordOf r.trackIndex, wordOf r.period] })) ∧
      exec (.getZones p f) s =
        .next
          (s.respond p
            { status := .ok
              payload :=
                [bytesWord s.pru.zones.entries.length (s.pru.zones.endBlock / 65536),
                  wordOf (s.pru.zones.endBlock % 65536 : Nat)] ++
                  s.pru.zones.entries.flatMap (fun e =>
                    wordsOf e.firstBlock ++ [wordOf e.firstTrack, wordOf e.bpt256]) })

/-- SET_PARAM writes the value, read as signed where the range is, brought into its range, and answers identifier and value; no
other parameter changes. SF outside 1, 2, 4 and an unlisted identifier are refused with BAD_VALUE; an SF that changes takes a
LOCKED spindle to LOCKING, and SF and KCLV compute the target period again (R63, R71, R191, R194). -/
def Obligations.ParameterWritten : Prop :=
  ∀ (f : Frame) (w v : Word) (s : State), s.listens .portD = true → Carries f [w, v] →
    ((∀ q, w.toNat ≠ ParamId.code q) →
        exec (.setParam .portD f) s = .next (s.respond .portD { status := .badValue, payload := [] })) ∧
      ∀ q, w.toNat = ParamId.code q →
        let x : Int := if q.lo < 0 then v.toInt else v.toNat
        let y := max q.lo (min x q.hi)
        let answer : Response := { status := if y = x then .ok else .clamped, payload := [w, wordOf y] }
        (q = .sf → x ≠ 1 → x ≠ 2 → x ≠ 4 →
            exec (.setParam .portD f) s = .next (s.respond .portD { status := .badValue, payload := [] })) ∧
          (q ≠ .sf ∨ x = 1 ∨ x = 2 ∨ x = 4 →
            ∃ t : State, exec (.setParam .portD f) s = .next (t.respond .portD answer) ∧
              t = { s with prm := t.prm, spc := t.spc } ∧ t.prm.get q = y ∧
              (∀ r, r ≠ q → t.prm.get r = s.prm.get r) ∧
              (q ≠ .sf → q ≠ .kclv → t.spc = s.spc) ∧
              (q = .sf ∨ q = .kclv →
                t.spc.target = targetPeriod s.pru.trackIndex t.prm.sf t.prm.kclv ∧
                  t.spc =
                    { s.spc with
                      target := t.spc.target, state := t.spc.state, inRun := t.spc.inRun, outRun := t.spc.outRun
                      spinTimer := t.spc.spinTimer }) ∧
              (q = .kclv ∨ (q = .sf ∧ (t.prm.sf = s.prm.sf ∨ s.spc.state ≠ .locked)) →
                t.spc = { s.spc with target := t.spc.target }) ∧
              (q = .sf → t.prm.sf ≠ s.prm.sf → s.spc.state = .locked →
                t.spc =
                  { s.spc with
                    target := t.spc.target, state := .locking, inRun := 0, outRun := 0
                    spinTimer := { count := 0, running := true } }))

/-- The track of a block (R89): outside the table's range there is none; inside it, with e the last entry whose first block is
not above b, it is e's first track plus floor((b - first block) * 256 / bpt256), clamped to 0..21,999. Under the default table
every block from 197,991 on converts to track 21,999, and no block before it does. -/
def Obligations.TrackOfBlockByLastEntry : Prop :=
  (∀ (z : ZoneTable) (b : Nat), b < z.firstBlock ∨ z.endBlock < b → z.trackOf b = none) ∧
    (∀ (z : ZoneTable) (b : Nat) (pre post : List ZoneEntry) (e : ZoneEntry),
      z.firstBlock ≤ b → b ≤ z.endBlock → z.entries = pre ++ e :: post → e.firstBlock ≤ b →
        (∀ x ∈ post, b < x.firstBlock) →
        z.trackOf b =
          some (max 0 (min ((e.firstTrack + (b - e.firstBlock) * 256 / e.bpt256 : Nat) : Int) 21999))) ∧
    ∀ b, b ≤ 449999 → (ZoneTable.default.trackOf b = some 21999 ↔ 197991 ≤ b)

/-- ADDRESS_REPORT. Outside an address wait, with the pickup left as it is: a GOOD report in TRACKING or HOLDING with the
loop CLOSED, of a block in the table, on a record that is not anchored or agrees within ANCHOR_TOL, is accepted and anchors
the record; any other is rejected by the first of the five tests that fails and counted, and a disagreement is one of three
in a row that drop the anchor. In an address wait a SUSPECT report is rejected and leaves the wait; a GOOD one is judged for
the record, and after it for the seek: in the window the seek completes DONE, outside it a correction is made from the
report's track (a distance of 0 taken as -1), or the seek completes MISSED. A quality outside the set is refused (R94 to R98,
R122, R123). That the stopped wait timer keeps its count, and that the jump of a correction takes KICK as it stands at the
command, are the model's choices (notes/assumptions/10.md, 40.md). -/
def Obligations.AddressReportJudged : Prop :=
  ∀ (f : Frame) (h l q : Word) (s : State), s.listens .portP = true → Carries f [h, l, q] → s.Still →
    let x := (DWord.ofWords h l).toNat
    let b := min x 449999
    let status : Status := if 449999 < x then .clamped else .ok
    let drives := s.dsv.drive = .tracking ∨ s.dsv.drive = .holding
    (2 ≤ q.toNat → exec (.addressReport .portP f) s = .next (s.respond .portP { status := .badValue, payload := [] })) ∧
      (q = 1 →
        exec (.addressReport .portP f) s =
          .next
            ((s.bump .anchorReject).respond .portP
              { status := status
                payload :=
                  [1, wordOf s.pru.trackIndex, bytesWord s.pru.run (if s.pru.anchor.isSome then 1 else 0)] })) ∧
      (∀ n : Nat, q = 0 → s.mve.phase ≠ .addressWait →
        (n = 2 ∧ ¬drives) ∨ (n = 3 ∧ drives ∧ s.track.state ≠ .closed) ∨
          (n = 4 ∧ drives ∧ s.track.state = .closed ∧ (b < s.pru.zones.firstBlock ∨ s.pru.zones.endBlock < b)) →
        exec (.addressReport .portP f) s =
          .next
            ((s.bump .anchorReject).respond .portP
              { status := status
                payload :=
                  [wordOf n, wordOf s.pru.trackIndex,
                    bytesWord s.pru.run (if s.pru.anchor.isSome then 1 else 0)] })) ∧
      (∀ n e, q = 0 → s.mve.phase ≠ .addressWait → drives → s.track.state = .closed →
        s.pru.anchor = none ∨ (n - s.pru.trackIndex).natAbs ≤ s.prm.anchorTol → s.pru.zones.trackOf b = some n →
        s.pru.zones.startBlock n = some e →
        ∃ t : State, exec (.addressReport .portP f) s =
            .next (t.respond .portP { status := status, payload := [0, wordOf n, bytesWord 0 1] }) ∧
          t = { s with
                pru :=
                  { s.pru with trackIndex := n, anchor := some { block := b, estimated := e }, revs := 0, run := 0 }
                spc := { s.spc with target := t.spc.target } } ∧
          (n ≠ s.pru.trackIndex → t.spc.target = targetPeriod n s.prm.sf s.prm.kclv)) ∧
      (∀ n a, q = 0 → s.mve.phase ≠ .addressWait → drives → s.track.state = .closed → s.pru.anchor = some a →
        s.pru.zones.trackOf b = some n → s.prm.anchorTol < (n - s.pru.trackIndex).natAbs → s.pru.run < 2 →
        exec (.addressReport .portP f) s =
          .next
            ((({ s with pru := { s.pru with run := s.pru.run + 1 } } : State).bump .anchorReject).respond .portP
              { status := status, payload := [5, wordOf s.pru.trackIndex, bytesWord (s.pru.run + 1) 1] })) ∧
      (∀ n a, q = 0 → s.mve.phase ≠ .addressWait → drives → s.track.state = .closed → s.pru.anchor = some a →
        s.pru.zones.trackOf b = some n → s.prm.anchorTol < (n - s.pru.trackIndex).natAbs → s.pru.run = 2 →
        ∃ t : State, exec (.addressReport .portP f) s =
            .next (t.respond .portP { status := status, payload := [5, wordOf s.pru.trackIndex, 0] }) ∧
          t = { s with pru := { s.pru with anchor := none, run := 0 }, ctb := t.ctb, pifP := t.pifP, pifD := t.pifD } ∧
          t.ctb =
            { s.ctb with anchorReject := s.ctb.anchorReject + 1, anchorDrop := s.ctb.anchorDrop + 1 }) ∧
      ∀ m n e, q = 0 → s.mve.phase = .addressWait → s.LoneMove m → m.kind = .seekBlock → s.dsv.drive = .moving →
        s.mve.returnState = some .tracking → s.track.state = .closed → s.pru.anchor = none →
        s.pru.zones.trackOf b = some n → s.pru.zones.startBlock n = some e → s.pifD.older = none →
        let record : Pru :=
          { s.pru with trackIndex := n, anchor := some { block := b, estimated := e }, revs := 0, run := 0 }
        let answer : Response := { status := status, payload := [0, wordOf n, bytesWord 0 1] }
        let inWindow := s.mve.target ≤ b + s.prm.seekWin ∧ b ≤ s.mve.target
        let ends (t : State) (o : MoveOutcome) : Prop :=
          t.pru = record ∧ t.dsv = { s.dsv with drive := .tracking } ∧
            t.arb = { s.arb with queueD := [], source := .none, claim := t.arb.claim } ∧ t.mve.active = none ∧
            t.mve.phase = .none ∧ t.mve.waitTimer.running = false ∧ t.track = s.track ∧ t.slc = s.slc ∧
            t.pifP.response = some answer ∧
            t.pifD.older =
              some
                { port := .portD, ticket := m.ticket, kind := .seekBlock, urgent := false, chained := m.chain
                  outcome := o, trackIndex := n, anchorBlock := some b, corrections := s.mve.corrections
                  elapsed := s.mve.elapsed, last := true, measured := none }
        (inWindow → ∃ t : State, exec (.addressReport .portP f) s = .next t ∧ ends t .done ∧ t.ctb = s.ctb) ∧
          (¬inWindow → s.prm.seekCorr ≤ s.mve.corrections →
            ∃ t : State, exec (.addressReport .portP f) s = .next t ∧ ends t .missed ∧
              t.ctb = { s.ctb with seekMiss := s.ctb.seekMiss + 1 }) ∧
          (∀ k, ¬inWindow → s.mve.corrections < s.prm.seekCorr → s.pru.zones.inRange s.mve.target = true →
            s.pru.zones.trackOf (max (s.mve.target - s.prm.seekWin / 2) s.pru.zones.firstBlock) = some k →
            (k - n).natAbs ≤ 64 → s.lensTaken = true →
            let d := if k = n then -1 else k - n
            let dir : Dir := if d < 0 then .inward else .outward
            ∃ t : State, exec (.addressReport .portP f) s = .next t ∧
              t.pru = record ∧ t.dsv = s.dsv ∧ t.arb = s.arb ∧ t.slc = s.slc ∧
              t.ctb = { s.ctb with seekCorrection := s.ctb.seekCorrection + 1 } ∧
              t.track =
                { s.track with
                  state := .jumping, kick := .kick, jumpDir := dir, integ := 0, ePrev := 0, resume := false
                  drive := if d < 0 then -(s.prm.kick : Int) else s.prm.kick } ∧
              t.mve =
                { s.mve with
                  phase := .jump, jumpSize := d.natAbs, jumpDir := dir, crossings := 0, settling := false
                  jumpTimer := { count := 0, running := true }, corrections := s.mve.corrections + 1
                  aim := max (s.mve.target - s.prm.seekWin / 2) s.pru.zones.firstBlock
                  waitTimer := { s.mve.waitTimer with running := false } } ∧
              t.pifP.response = some answer)

/-- ZONE_SET replaces the whole table where it passes the seven points of R91, written out here, and is answered OK: the index and every other state
stay, and the estimated block of an anchor that the table holds is formed anew; a table that fails is refused with BAD_VALUE
and changes nothing. A count that does not agree with LEN is refused with BAD_LENGTH (R91, R92, R189, R195). -/
def Obligations.ZoneTableReplaced : Prop :=
  ∀ (f : Frame) (w v : Word) (rest : List Word) (s : State), s.listens .portP = true → Carries f (w :: v :: rest) →
    let z : ZoneTable :=
      { entries := zoneEntriesOf rest, endBlock := (Word.lo w).toNat * 65536 + v.toNat }
    let passes : Prop :=
      1 ≤ z.entries.length ∧ z.entries.length ≤ 32 ∧ (∀ e ∈ z.entries, e.firstBlock ≤ 449999) ∧ z.endBlock ≤ 449999 ∧
        (∀ e ∈ z.entries, e.firstTrack ≤ 21999) ∧ (∀ e ∈ z.entries, 1024 ≤ e.bpt256 ∧ e.bpt256 ≤ 7168) ∧
        (∀ pre e g post, z.entries = pre ++ e :: g :: post →
          e.firstBlock < g.firstBlock ∧ e.firstTrack < g.firstTrack) ∧
        (∀ pre e, z.entries = pre ++ [e] → e.firstBlock ≤ z.endBlock)
    (rest.length ≠ 4 * (Word.hi w).toNat →
        exec (.zoneSet .portP f) s = .next (s.respond .portP { status := .badLength, payload := [] })) ∧
      (rest.length = 4 * (Word.hi w).toNat → ¬passes →
        exec (.zoneSet .portP f) s = .next (s.respond .portP { status := .badValue, payload := [] })) ∧
      (rest.length = 4 * (Word.hi w).toNat → passes →
        ∃ t : State, exec (.zoneSet .portP f) s = .next (t.respond .portP { status := .ok, payload := [] }) ∧
          t = { s with pru := t.pru } ∧ t.pru.zones = z ∧ t.pru.trackIndex = s.pru.trackIndex ∧
          (s.pru.anchor = none → t.pru = { s.pru with zones := z }) ∧
          (∀ a e, s.pru.anchor = some a → z.inRange a.block = true → z.startBlock s.pru.trackIndex = some e →
            t.pru = { s.pru with zones := z, anchor := some { a with estimated := e } }) ∧
          (∀ a, s.pru.anchor = some a → z.inRange a.block = false ∨ z.startBlock s.pru.trackIndex = none →
            t.pru = { s.pru with zones := z, anchor := none, run := 0 }))

/-- DECK_REPORT sets the clamp, answers OK and raises DECK on Port P. CLAMPED grants the permit where LOWV is deasserted, and
takes NO_DISC to IDLE and no other drive state. UNCLAMPED and LOADING withdraw the permit with the duty cut at once; with the
disc still turning and the drive in TRACKING they are an emergency: an UNCLAMP_SPINNING record, both loops OPEN, the laser
off, the spindle coasting and the drive FAULTED. With the disc stopped and the laser off they take IDLE, and the homing of a
PARK with the result DISC_RELEASED, to NO_DISC, and leave FAULTED as it is; in NO_DISC they change only the clamp state. A
code outside the set is refused with BAD_VALUE (R65, R129, R157 to R160, R164). That the sled stop of the quiet path and of
the emergency is given with no move active is the model's choice (notes/assumptions/35.md), and so are that the PWM period
after the cut counts as following a duty of 0 (notes/assumptions/13.md) and that the stopped spin timer keeps its count
(notes/assumptions/10.md). -/
def Obligations.DeckReportActs : Prop :=
  ∀ (f : Frame) (w : Word) (s : State), s.listens .portD = true → Carries f [w] →
    let p' : Pif := { s.pifP with flags := s.pifP.flags ||| Notice.deck.flag }
    (3 ≤ w.toNat → exec (.deckReport .portD f) s = .next (s.respond .portD { status := .badValue, payload := [] })) ∧
      (w = 0 → s.dsv.clamp = .clamped →
        exec (.deckReport .portD f) s =
          .next (({ s with pifP := p' } : State).respond .portD { status := .ok, payload := [] })) ∧
      (w = 0 → s.dsv.clamp ≠ .clamped → s.dsv.drive = .noDisc → s.dsv.lowv = false → s.pru.anchor = none →
        s.arb.mark = none →
        exec (.deckReport .portD f) s =
          .next
            ((({ s with
                pifP := p', dsv := { s.dsv with clamp := .clamped, drive := .idle }
                spc := { s.spc with permit := true } } : State).raiseBoth .driveState).respond .portD
              { status := .ok, payload := [] })) ∧
      (w = 0 → s.dsv.clamp ≠ .clamped → s.dsv.drive ≠ .noDisc →
        exec (.deckReport .portD f) s =
          .next
            (({ s with
                pifP := p', dsv := { s.dsv with clamp := .clamped }
                spc := { s.spc with permit := if s.dsv.lowv then s.spc.permit else true } } : State).respond .portD
              { status := .ok, payload := [] })) ∧
      (∀ c, Clamp.ofCode w.toNat = some c → c ≠ .clamped → s.pru.anchor = none → s.arb.mark = none →
        let cut : Spc := { s.spc with permit := false, duty := 0, pwm := { last := 0, out := 0 } }
        (s.dsv.drive = .noDisc → s.spc.permit = false →
            exec (.deckReport .portD f) s =
              .next
                (({ s with pifP := p', dsv := { s.dsv with clamp := c } } : State).respond .portD
                  { status := .ok, payload := [] })) ∧
          (s.dsv.drive = .faulted → s.spc.state = .stopped → s.spc.permit = true →
            exec (.deckReport .portD f) s =
              .next
                (({ s with pifP := p', dsv := { s.dsv with clamp := c }, spc := cut } : State).respond .portD
                  { status := .ok, payload := [] })) ∧
          (s.dsv.drive = .idle → s.spc.state = .stopped → s.dsv.laser = false → s.spc.permit = true →
            s.mve.active = none → s.NothingWaits →
            exec (.deckReport .portD f) s =
              .next
                ((({ s with
                    pifP := p', dsv := { s.dsv with clamp := c, drive := .noDisc }, spc := cut
                    slc := s.sledStop.slc, mve := s.endWork.mve } : State).raiseBoth .driveState).respond .portD
                  { status := .ok, payload := [] })) ∧
          (∀ m, s.dsv.drive = .stopping → s.spc.state = .stopped → s.dsv.laser = false → s.spc.permit = true →
            s.LoneMove m → m.kind = .park → s.mve.phase = .homing → s.pifD.older = none →
            ∃ t : State, exec (.deckReport .portD f) s = .next t ∧
              t = { s with
                    spc := cut, slc := s.sledStop.slc, mve := t.mve
                    arb := { s.arb with queueD := [], source := .none, claim := .none }
                    dsv := { s.dsv with clamp := c, drive := .noDisc }, pifP := t.pifP, pifD := t.pifD } ∧
              t.mve.active = none ∧ t.mve.phase = .none ∧
              t.pifD.older.map (fun r => (r.ticket, r.kind, r.outcome, r.last)) =
                some (m.ticket, m.kind, .discReleased, true))) ∧
      (∀ c, Clamp.ofCode w.toNat = some c → c ≠ .clamped → s.dsv.drive = .tracking → s.spc.state = .locked →
        s.spc.permit = true → s.dsv.record = none → s.mve.active = none → s.NothingWaits →
        ∃ t : State, exec (.deckReport .portD f) s = .next t ∧
          t = { s with
                dfe := t.dfe, focus := t.focus, track := t.track, spc := t.spc, slc := s.sledStop.slc, pru := t.pru
                mve := t.mve, arb := { s.arb with mark := none }, dsv := t.dsv, pifP := t.pifP, pifD := t.pifD } ∧
          t.focus.state = .opened ∧ t.track.state = .opened ∧
          t.spc =
            { s.spc with
              state := .coast, permit := false, duty := 0, dir := .fwd, inRun := 0, outRun := 0
              spinTimer := { s.spc.spinTimer with running := false }, pwm := { last := 0, out := 0 } } ∧
          t.pru.anchor = none ∧ t.mve.holdJump = .none ∧ t.mve.settling = false ∧ t.mve.activity = .none ∧
          t.dsv =
            { s.dsv with
              clamp := c, drive := .faulted, laser := false, recovery := .none
              record :=
                some
                  { kind := .unclampSpinning, drive := .tracking, active := none, trackIndex := s.pru.trackIndex
                    period := s.spc.tm } } ∧
          t.pifD.response = some { status := .ok, payload := [] } ∧
          (t.pifP.flags.getLsbD 11 = true ∧ t.pifP.flags.getLsbD 9 = true ∧ t.pifP.flags.getLsbD 7 = true))

/-- CLEAR_FAULT takes a latched record and the lost flag away, and a FAULTED drive to IDLE where the disc is clamped and to
NO_DISC otherwise; with no record it changes nothing. It is answered OK on either port (R157, R166). -/
def Obligations.FaultCleared : Prop :=
  ∀ (p : Port) (f : Frame) (s : State), s.listens p = true → Carries f [] →
    let ok : Response := { status := .ok, payload := [] }
    (s.dsv.record = none → exec (.clearFault p f) s = .next (s.respond p ok)) ∧
      (∀ r, s.dsv.record = some r → s.dsv.drive ≠ .faulted →
        exec (.clearFault p f) s =
          .next (({ s with dsv := { s.dsv with record := none, lost := false } } : State).respond p ok)) ∧
      (∀ r, s.dsv.record = some r → s.dsv.drive = .faulted → s.pru.anchor = none → s.arb.mark = none →
        exec (.clearFault p f) s =
          .next
            ((({ s with
                dsv :=
                  { s.dsv with
                    record := none, lost := false
                    drive := if s.dsv.clamp = .clamped then .idle else .noDisc } } : State).raiseBoth .driveState).respond p
              ok))
end

