-- ==== Sys2Proof/Laws/State.lean ====
section
/-!
SUPPORT. What each shared order and update leaves alone: one lemma per operation, whose parts rewrite the blocks that
the operation does not touch; and the small lemmas of the port and of the timers.
-/

namespace Sys2Proof.Machine

/-! ### Ports -/

@[simp] theorem State.pif_setPif_self (s : State) (p : Port) (f : Pif) : (s.setPif p f).pif p = f := by
  cases p <;> rfl

@[simp] theorem State.pif_setPif_other (s : State) (p : Port) (f : Pif) :
    (s.setPif p f).pif (otherPort p) = s.pif (otherPort p) := by
  cases p <;> rfl

@[simp] theorem State.pif_portP (s : State) : s.pif .portP = s.pifP := rfl
@[simp] theorem State.pif_portD (s : State) : s.pif .portD = s.pifD := rfl

/-- One port's interface replaced. -/
@[simp] theorem State.setPif_frame (s : State) (p : Port) (f : Pif) :
    (s.setPif p f).rstnLow = s.rstnLow ∧ (s.setPif p f).lowvPin = s.lowvPin ∧ (s.setPif p f).homePin = s.homePin ∧
    (s.setPif p f).prm = s.prm ∧ (s.setPif p f).dfe = s.dfe ∧ (s.setPif p f).focus = s.focus ∧
    (s.setPif p f).track = s.track ∧ (s.setPif p f).dmn = s.dmn ∧ (s.setPif p f).spc = s.spc ∧
    (s.setPif p f).slc = s.slc ∧ (s.setPif p f).pru = s.pru ∧ (s.setPif p f).mve = s.mve ∧
    (s.setPif p f).arb = s.arb ∧ (s.setPif p f).dsv = s.dsv ∧ (s.setPif p f).ctb = s.ctb ∧
    (s.setPif p f).pending = s.pending := by
  cases p <;> simp [State.setPif]

/-- A notice raised on a port (R177). -/
@[simp] theorem State.raise_frame (s : State) (p : Port) (n : Notice) :
    (s.raise p n).rstnLow = s.rstnLow ∧ (s.raise p n).lowvPin = s.lowvPin ∧ (s.raise p n).homePin = s.homePin ∧
    (s.raise p n).prm = s.prm ∧ (s.raise p n).dfe = s.dfe ∧ (s.raise p n).focus = s.focus ∧
    (s.raise p n).track = s.track ∧ (s.raise p n).dmn = s.dmn ∧ (s.raise p n).spc = s.spc ∧
    (s.raise p n).slc = s.slc ∧ (s.raise p n).pru = s.pru ∧ (s.raise p n).mve = s.mve ∧ (s.raise p n).arb = s.arb ∧
    (s.raise p n).dsv = s.dsv ∧ (s.raise p n).ctb = s.ctb ∧ (s.raise p n).pending = s.pending := by
  simp [State.raise]

/-- A notice raised on both ports (R176). -/
@[simp] theorem State.raiseBoth_frame (s : State) (n : Notice) :
    (s.raiseBoth n).rstnLow = s.rstnLow ∧ (s.raiseBoth n).lowvPin = s.lowvPin ∧
    (s.raiseBoth n).homePin = s.homePin ∧ (s.raiseBoth n).prm = s.prm ∧ (s.raiseBoth n).dfe = s.dfe ∧
    (s.raiseBoth n).focus = s.focus ∧ (s.raiseBoth n).track = s.track ∧ (s.raiseBoth n).dmn = s.dmn ∧
    (s.raiseBoth n).spc = s.spc ∧ (s.raiseBoth n).slc = s.slc ∧ (s.raiseBoth n).pru = s.pru ∧
    (s.raiseBoth n).mve = s.mve ∧ (s.raiseBoth n).arb = s.arb ∧ (s.raiseBoth n).dsv = s.dsv ∧
    (s.raiseBoth n).ctb = s.ctb ∧ (s.raiseBoth n).pending = s.pending := by
  simp [State.raiseBoth]

/-- COUNTER_HALF judged (R182). -/
@[simp] theorem State.judgeHalf_frame (s : State) (c : CounterId) (p : Port) :
    (s.judgeHalf c p).rstnLow = s.rstnLow ∧ (s.judgeHalf c p).lowvPin = s.lowvPin ∧
    (s.judgeHalf c p).homePin = s.homePin ∧ (s.judgeHalf c p).prm = s.prm ∧ (s.judgeHalf c p).dfe = s.dfe ∧
    (s.judgeHalf c p).focus = s.focus ∧ (s.judgeHalf c p).track = s.track ∧ (s.judgeHalf c p).dmn = s.dmn ∧
    (s.judgeHalf c p).spc = s.spc ∧ (s.judgeHalf c p).slc = s.slc ∧ (s.judgeHalf c p).pru = s.pru ∧
    (s.judgeHalf c p).mve = s.mve ∧ (s.judgeHalf c p).arb = s.arb ∧ (s.judgeHalf c p).dsv = s.dsv ∧
    (s.judgeHalf c p).ctb = s.ctb ∧ (s.judgeHalf c p).pending = s.pending := by
  unfold State.judgeHalf
  split <;> simp

/-- A counter's increment (R180). -/
@[simp] theorem State.bump_frame (s : State) (c : CounterId) :
    (s.bump c).rstnLow = s.rstnLow ∧ (s.bump c).lowvPin = s.lowvPin ∧ (s.bump c).homePin = s.homePin ∧
    (s.bump c).prm = s.prm ∧ (s.bump c).dfe = s.dfe ∧ (s.bump c).focus = s.focus ∧ (s.bump c).track = s.track ∧
    (s.bump c).dmn = s.dmn ∧ (s.bump c).spc = s.spc ∧ (s.bump c).slc = s.slc ∧ (s.bump c).pru = s.pru ∧
    (s.bump c).mve = s.mve ∧ (s.bump c).arb = s.arb ∧ (s.bump c).dsv = s.dsv ∧ (s.bump c).pending = s.pending := by
  simp [State.bump]

/-- The anchor dropped (R100). -/
@[simp] theorem State.dropAnchor_frame (s : State) :
    (s.dropAnchor).rstnLow = s.rstnLow ∧ (s.dropAnchor).lowvPin = s.lowvPin ∧ (s.dropAnchor).homePin = s.homePin ∧
    (s.dropAnchor).prm = s.prm ∧ (s.dropAnchor).dfe = s.dfe ∧ (s.dropAnchor).focus = s.focus ∧
    (s.dropAnchor).track = s.track ∧ (s.dropAnchor).dmn = s.dmn ∧ (s.dropAnchor).spc = s.spc ∧
    (s.dropAnchor).slc = s.slc ∧ (s.dropAnchor).mve = s.mve ∧ (s.dropAnchor).arb = s.arb ∧
    (s.dropAnchor).dsv = s.dsv ∧ (s.dropAnchor).pifP = s.pifP ∧ (s.dropAnchor).pifD = s.pifD ∧
    (s.dropAnchor).ctb = s.ctb ∧ (s.dropAnchor).pending = s.pending := by
  unfold State.dropAnchor
  split <;> simp

/-- The estimated block formed again (R83). -/
@[simp] theorem State.formEstimate_frame (s : State) :
    (s.formEstimate).rstnLow = s.rstnLow ∧ (s.formEstimate).lowvPin = s.lowvPin ∧
    (s.formEstimate).homePin = s.homePin ∧ (s.formEstimate).prm = s.prm ∧ (s.formEstimate).dfe = s.dfe ∧
    (s.formEstimate).focus = s.focus ∧ (s.formEstimate).track = s.track ∧ (s.formEstimate).dmn = s.dmn ∧
    (s.formEstimate).spc = s.spc ∧ (s.formEstimate).slc = s.slc ∧ (s.formEstimate).mve = s.mve ∧
    (s.formEstimate).arb = s.arb ∧ (s.formEstimate).dsv = s.dsv ∧ (s.formEstimate).pifP = s.pifP ∧
    (s.formEstimate).pifD = s.pifD ∧ (s.formEstimate).ctb = s.ctb ∧ (s.formEstimate).pending = s.pending := by
  unfold State.formEstimate
  split <;> simp

/-- The target period computed again (R63). -/
@[simp] theorem State.retarget_frame (s : State) :
    (s.retarget).rstnLow = s.rstnLow ∧ (s.retarget).lowvPin = s.lowvPin ∧ (s.retarget).homePin = s.homePin ∧
    (s.retarget).prm = s.prm ∧ (s.retarget).dfe = s.dfe ∧ (s.retarget).focus = s.focus ∧
    (s.retarget).track = s.track ∧ (s.retarget).dmn = s.dmn ∧ (s.retarget).slc = s.slc ∧ (s.retarget).pru = s.pru ∧
    (s.retarget).mve = s.mve ∧ (s.retarget).arb = s.arb ∧ (s.retarget).dsv = s.dsv ∧ (s.retarget).pifP = s.pifP ∧
    (s.retarget).pifD = s.pifD ∧ (s.retarget).ctb = s.ctb ∧ (s.retarget).pending = s.pending := by
  simp [State.retarget]

/-- The track index set (R83, R63). -/
@[simp] theorem State.setIndex_frame (s : State) (n : Int) :
    (s.setIndex n).rstnLow = s.rstnLow ∧ (s.setIndex n).lowvPin = s.lowvPin ∧ (s.setIndex n).homePin = s.homePin ∧
    (s.setIndex n).prm = s.prm ∧ (s.setIndex n).dfe = s.dfe ∧ (s.setIndex n).focus = s.focus ∧
    (s.setIndex n).track = s.track ∧ (s.setIndex n).dmn = s.dmn ∧ (s.setIndex n).slc = s.slc ∧
    (s.setIndex n).mve = s.mve ∧ (s.setIndex n).arb = s.arb ∧ (s.setIndex n).dsv = s.dsv ∧
    (s.setIndex n).pifP = s.pifP ∧ (s.setIndex n).pifD = s.pifD ∧ (s.setIndex n).ctb = s.ctb ∧
    (s.setIndex n).pending = s.pending := by
  unfold State.setIndex
  split <;> simp

/-- The track index moved (R84, R85). -/
@[simp] theorem State.moveIndex_frame (s : State) (d : Int) :
    (s.moveIndex d).rstnLow = s.rstnLow ∧ (s.moveIndex d).lowvPin = s.lowvPin ∧
    (s.moveIndex d).homePin = s.homePin ∧ (s.moveIndex d).prm = s.prm ∧ (s.moveIndex d).dfe = s.dfe ∧
    (s.moveIndex d).focus = s.focus ∧ (s.moveIndex d).track = s.track ∧ (s.moveIndex d).dmn = s.dmn ∧
    (s.moveIndex d).slc = s.slc ∧ (s.moveIndex d).mve = s.mve ∧ (s.moveIndex d).arb = s.arb ∧
    (s.moveIndex d).dsv = s.dsv ∧ (s.moveIndex d).pifP = s.pifP ∧ (s.moveIndex d).pifD = s.pifD ∧
    (s.moveIndex d).ctb = s.ctb ∧ (s.moveIndex d).pending = s.pending := by
  simp [State.moveIndex]

/-- The position mark cleared (R154). -/
@[simp] theorem State.clearMark_frame (s : State) (tell : Bool) :
    (s.clearMark tell).rstnLow = s.rstnLow ∧ (s.clearMark tell).lowvPin = s.lowvPin ∧
    (s.clearMark tell).homePin = s.homePin ∧ (s.clearMark tell).prm = s.prm ∧ (s.clearMark tell).dfe = s.dfe ∧
    (s.clearMark tell).focus = s.focus ∧ (s.clearMark tell).track = s.track ∧ (s.clearMark tell).dmn = s.dmn ∧
    (s.clearMark tell).spc = s.spc ∧ (s.clearMark tell).slc = s.slc ∧ (s.clearMark tell).pru = s.pru ∧
    (s.clearMark tell).mve = s.mve ∧ (s.clearMark tell).dsv = s.dsv ∧ (s.clearMark tell).ctb = s.ctb ∧
    (s.clearMark tell).pending = s.pending := by
  unfold State.clearMark
  split
  · simp
  · cases tell <;> simp

/-- A holding jump ended (R118). -/
@[simp] theorem State.endHoldJump_frame (s : State) :
    (s.endHoldJump).rstnLow = s.rstnLow ∧ (s.endHoldJump).lowvPin = s.lowvPin ∧
    (s.endHoldJump).homePin = s.homePin ∧ (s.endHoldJump).prm = s.prm ∧ (s.endHoldJump).dfe = s.dfe ∧
    (s.endHoldJump).focus = s.focus ∧ (s.endHoldJump).track = s.track ∧ (s.endHoldJump).dmn = s.dmn ∧
    (s.endHoldJump).spc = s.spc ∧ (s.endHoldJump).slc = s.slc ∧ (s.endHoldJump).pru = s.pru ∧
    (s.endHoldJump).arb = s.arb ∧ (s.endHoldJump).dsv = s.dsv ∧ (s.endHoldJump).pifP = s.pifP ∧
    (s.endHoldJump).pifD = s.pifD ∧ (s.endHoldJump).ctb = s.ctb ∧ (s.endHoldJump).pending = s.pending := by
  simp [State.endHoldJump]

/-- The anchor and the mark at the entry to a drive state (R157). -/
@[simp] theorem State.settle_frame (s : State) (d : DriveState) :
    (s.settle d).rstnLow = s.rstnLow ∧ (s.settle d).lowvPin = s.lowvPin ∧ (s.settle d).homePin = s.homePin ∧
    (s.settle d).prm = s.prm ∧ (s.settle d).dfe = s.dfe ∧ (s.settle d).focus = s.focus ∧
    (s.settle d).track = s.track ∧ (s.settle d).dmn = s.dmn ∧ (s.settle d).spc = s.spc ∧ (s.settle d).slc = s.slc ∧
    (s.settle d).mve = s.mve ∧ (s.settle d).dsv = s.dsv ∧ (s.settle d).ctb = s.ctb ∧
    (s.settle d).pending = s.pending := by
  unfold State.settle
  split <;> simp

/-- A holding jump at the departure from a drive state (R157). -/
@[simp] theorem State.leaveDrive_frame (s : State) (d : DriveState) :
    (s.leaveDrive d).rstnLow = s.rstnLow ∧ (s.leaveDrive d).lowvPin = s.lowvPin ∧
    (s.leaveDrive d).homePin = s.homePin ∧ (s.leaveDrive d).prm = s.prm ∧ (s.leaveDrive d).dfe = s.dfe ∧
    (s.leaveDrive d).focus = s.focus ∧ (s.leaveDrive d).track = s.track ∧ (s.leaveDrive d).dmn = s.dmn ∧
    (s.leaveDrive d).spc = s.spc ∧ (s.leaveDrive d).slc = s.slc ∧ (s.leaveDrive d).pru = s.pru ∧
    (s.leaveDrive d).arb = s.arb ∧ (s.leaveDrive d).dsv = s.dsv ∧ (s.leaveDrive d).pifP = s.pifP ∧
    (s.leaveDrive d).pifD = s.pifD ∧ (s.leaveDrive d).ctb = s.ctb ∧ (s.leaveDrive d).pending = s.pending := by
  unfold State.leaveDrive
  split <;> simp

/-- The drive state changed (R157). -/
@[simp] theorem State.setDrive_frame (s : State) (d : DriveState) :
    (s.setDrive d).rstnLow = s.rstnLow ∧ (s.setDrive d).lowvPin = s.lowvPin ∧ (s.setDrive d).homePin = s.homePin ∧
    (s.setDrive d).prm = s.prm ∧ (s.setDrive d).dfe = s.dfe ∧ (s.setDrive d).focus = s.focus ∧
    (s.setDrive d).track = s.track ∧ (s.setDrive d).dmn = s.dmn ∧ (s.setDrive d).spc = s.spc ∧
    (s.setDrive d).slc = s.slc ∧ (s.setDrive d).ctb = s.ctb ∧ (s.setDrive d).pending = s.pending := by
  unfold State.setDrive
  split <;> simp

/-- The laser turned on (R161). -/
@[simp] theorem State.laserOn_frame (s : State) :
    (s.laserOn).rstnLow = s.rstnLow ∧ (s.laserOn).lowvPin = s.lowvPin ∧ (s.laserOn).homePin = s.homePin ∧
    (s.laserOn).prm = s.prm ∧ (s.laserOn).dfe = s.dfe ∧ (s.laserOn).focus = s.focus ∧ (s.laserOn).track = s.track ∧
    (s.laserOn).dmn = s.dmn ∧ (s.laserOn).spc = s.spc ∧ (s.laserOn).slc = s.slc ∧ (s.laserOn).pru = s.pru ∧
    (s.laserOn).mve = s.mve ∧ (s.laserOn).arb = s.arb ∧ (s.laserOn).pifP = s.pifP ∧ (s.laserOn).pifD = s.pifD ∧
    (s.laserOn).ctb = s.ctb ∧ (s.laserOn).pending = s.pending := by
  unfold State.laserOn
  split <;> simp

/-- The laser turned off (R161). -/
@[simp] theorem State.laserOff_frame (s : State) :
    (s.laserOff).rstnLow = s.rstnLow ∧ (s.laserOff).lowvPin = s.lowvPin ∧ (s.laserOff).homePin = s.homePin ∧
    (s.laserOff).prm = s.prm ∧ (s.laserOff).dfe = s.dfe ∧ (s.laserOff).focus = s.focus ∧
    (s.laserOff).track = s.track ∧ (s.laserOff).dmn = s.dmn ∧ (s.laserOff).spc = s.spc ∧ (s.laserOff).slc = s.slc ∧
    (s.laserOff).pru = s.pru ∧ (s.laserOff).mve = s.mve ∧ (s.laserOff).arb = s.arb ∧ (s.laserOff).pifP = s.pifP ∧
    (s.laserOff).pifD = s.pifD ∧ (s.laserOff).ctb = s.ctb ∧ (s.laserOff).pending = s.pending := by
  simp [State.laserOff]

/-- The tracking loop written (R15). -/
@[simp] theorem State.setTrack_frame (s : State) (t : TrackLoop) :
    (s.setTrack t).rstnLow = s.rstnLow ∧ (s.setTrack t).lowvPin = s.lowvPin ∧ (s.setTrack t).homePin = s.homePin ∧
    (s.setTrack t).prm = s.prm ∧ (s.setTrack t).focus = s.focus ∧ (s.setTrack t).dmn = s.dmn ∧
    (s.setTrack t).spc = s.spc ∧ (s.setTrack t).slc = s.slc ∧ (s.setTrack t).pru = s.pru ∧
    (s.setTrack t).mve = s.mve ∧ (s.setTrack t).arb = s.arb ∧ (s.setTrack t).dsv = s.dsv ∧
    (s.setTrack t).pifP = s.pifP ∧ (s.setTrack t).pifD = s.pifD ∧ (s.setTrack t).ctb = s.ctb ∧
    (s.setTrack t).pending = s.pending := by
  simp [State.setTrack]

/-- Tracking open order (R22). -/
@[simp] theorem State.trackOpen_frame (s : State) :
    (s.trackOpen).rstnLow = s.rstnLow ∧ (s.trackOpen).lowvPin = s.lowvPin ∧ (s.trackOpen).homePin = s.homePin ∧
    (s.trackOpen).prm = s.prm ∧ (s.trackOpen).focus = s.focus ∧ (s.trackOpen).dmn = s.dmn ∧
    (s.trackOpen).spc = s.spc ∧ (s.trackOpen).slc = s.slc ∧ (s.trackOpen).pru = s.pru ∧ (s.trackOpen).mve = s.mve ∧
    (s.trackOpen).arb = s.arb ∧ (s.trackOpen).dsv = s.dsv ∧ (s.trackOpen).pifP = s.pifP ∧
    (s.trackOpen).pifD = s.pifD ∧ (s.trackOpen).ctb = s.ctb ∧ (s.trackOpen).pending = s.pending := by
  simp [State.trackOpen]

/-- Focus open order (R22). -/
@[simp] theorem State.focusOpen_frame (s : State) :
    (s.focusOpen).rstnLow = s.rstnLow ∧ (s.focusOpen).lowvPin = s.lowvPin ∧ (s.focusOpen).homePin = s.homePin ∧
    (s.focusOpen).prm = s.prm ∧ (s.focusOpen).dmn = s.dmn ∧ (s.focusOpen).spc = s.spc ∧ (s.focusOpen).slc = s.slc ∧
    (s.focusOpen).pru = s.pru ∧ (s.focusOpen).mve = s.mve ∧ (s.focusOpen).arb = s.arb ∧ (s.focusOpen).dsv = s.dsv ∧
    (s.focusOpen).pifP = s.pifP ∧ (s.focusOpen).pifD = s.pifD ∧ (s.focusOpen).ctb = s.ctb ∧
    (s.focusOpen).pending = s.pending := by
  simp [State.focusOpen]

/-- Search command (R32). -/
@[simp] theorem State.searchCommand_frame (s : State) :
    (s.searchCommand).rstnLow = s.rstnLow ∧ (s.searchCommand).lowvPin = s.lowvPin ∧
    (s.searchCommand).homePin = s.homePin ∧ (s.searchCommand).prm = s.prm ∧ (s.searchCommand).dmn = s.dmn ∧
    (s.searchCommand).spc = s.spc ∧ (s.searchCommand).slc = s.slc ∧ (s.searchCommand).pru = s.pru ∧
    (s.searchCommand).mve = s.mve ∧ (s.searchCommand).arb = s.arb ∧ (s.searchCommand).dsv = s.dsv ∧
    (s.searchCommand).pifP = s.pifP ∧ (s.searchCommand).pifD = s.pifD ∧ (s.searchCommand).ctb = s.ctb ∧
    (s.searchCommand).pending = s.pending := by
  unfold State.searchCommand
  split <;> simp

/-- Close command (R35). -/
@[simp] theorem State.closeCommand_frame (s : State) :
    (s.closeCommand).rstnLow = s.rstnLow ∧ (s.closeCommand).lowvPin = s.lowvPin ∧
    (s.closeCommand).homePin = s.homePin ∧ (s.closeCommand).prm = s.prm ∧ (s.closeCommand).focus = s.focus ∧
    (s.closeCommand).dmn = s.dmn ∧ (s.closeCommand).spc = s.spc ∧ (s.closeCommand).slc = s.slc ∧
    (s.closeCommand).pru = s.pru ∧ (s.closeCommand).mve = s.mve ∧ (s.closeCommand).arb = s.arb ∧
    (s.closeCommand).dsv = s.dsv ∧ (s.closeCommand).pifP = s.pifP ∧ (s.closeCommand).pifD = s.pifD ∧
    (s.closeCommand).ctb = s.ctb ∧ (s.closeCommand).pending = s.pending := by
  unfold State.closeCommand
  split <;> simp

/-- Jump command (R37). -/
@[simp] theorem State.jumpCommand_frame (s : State) (d : Dir) :
    (s.jumpCommand d).rstnLow = s.rstnLow ∧ (s.jumpCommand d).lowvPin = s.lowvPin ∧
    (s.jumpCommand d).homePin = s.homePin ∧ (s.jumpCommand d).prm = s.prm ∧ (s.jumpCommand d).focus = s.focus ∧
    (s.jumpCommand d).dmn = s.dmn ∧ (s.jumpCommand d).spc = s.spc ∧ (s.jumpCommand d).slc = s.slc ∧
    (s.jumpCommand d).pru = s.pru ∧ (s.jumpCommand d).mve = s.mve ∧ (s.jumpCommand d).arb = s.arb ∧
    (s.jumpCommand d).dsv = s.dsv ∧ (s.jumpCommand d).pifP = s.pifP ∧ (s.jumpCommand d).pifD = s.pifD ∧
    (s.jumpCommand d).ctb = s.ctb ∧ (s.jumpCommand d).pending = s.pending := by
  unfold State.jumpCommand
  split <;> simp

/-- Brake command (R38). -/
@[simp] theorem State.brakeCommand_frame (s : State) :
    (s.brakeCommand).rstnLow = s.rstnLow ∧ (s.brakeCommand).lowvPin = s.lowvPin ∧
    (s.brakeCommand).homePin = s.homePin ∧ (s.brakeCommand).prm = s.prm ∧ (s.brakeCommand).dfe = s.dfe ∧
    (s.brakeCommand).focus = s.focus ∧ (s.brakeCommand).dmn = s.dmn ∧ (s.brakeCommand).spc = s.spc ∧
    (s.brakeCommand).slc = s.slc ∧ (s.brakeCommand).pru = s.pru ∧ (s.brakeCommand).mve = s.mve ∧
    (s.brakeCommand).arb = s.arb ∧ (s.brakeCommand).dsv = s.dsv ∧ (s.brakeCommand).pifP = s.pifP ∧
    (s.brakeCommand).pifD = s.pifD ∧ (s.brakeCommand).ctb = s.ctb ∧ (s.brakeCommand).pending = s.pending := by
  unfold State.brakeCommand
  split <;> simp

/-- A defect hold ordered on the focus loop (R28, R29). -/
@[simp] theorem State.holdFocus_frame (s : State) :
    (s.holdFocus).rstnLow = s.rstnLow ∧ (s.holdFocus).lowvPin = s.lowvPin ∧ (s.holdFocus).homePin = s.homePin ∧
    (s.holdFocus).prm = s.prm ∧ (s.holdFocus).dfe = s.dfe ∧ (s.holdFocus).track = s.track ∧
    (s.holdFocus).dmn = s.dmn ∧ (s.holdFocus).spc = s.spc ∧ (s.holdFocus).slc = s.slc ∧ (s.holdFocus).pru = s.pru ∧
    (s.holdFocus).mve = s.mve ∧ (s.holdFocus).arb = s.arb ∧ (s.holdFocus).dsv = s.dsv ∧
    (s.holdFocus).pifP = s.pifP ∧ (s.holdFocus).pifD = s.pifD ∧ (s.holdFocus).ctb = s.ctb ∧
    (s.holdFocus).pending = s.pending := by
  unfold State.holdFocus
  split <;> simp

/-- A defect hold ordered on the tracking loop (R28, R29). -/
@[simp] theorem State.holdTrack_frame (s : State) :
    (s.holdTrack).rstnLow = s.rstnLow ∧ (s.holdTrack).lowvPin = s.lowvPin ∧ (s.holdTrack).homePin = s.homePin ∧
    (s.holdTrack).prm = s.prm ∧ (s.holdTrack).focus = s.focus ∧ (s.holdTrack).dmn = s.dmn ∧
    (s.holdTrack).spc = s.spc ∧ (s.holdTrack).slc = s.slc ∧ (s.holdTrack).pru = s.pru ∧ (s.holdTrack).mve = s.mve ∧
    (s.holdTrack).arb = s.arb ∧ (s.holdTrack).dsv = s.dsv ∧ (s.holdTrack).pifP = s.pifP ∧
    (s.holdTrack).pifD = s.pifD ∧ (s.holdTrack).ctb = s.ctb ∧ (s.holdTrack).pending = s.pending := by
  unfold State.holdTrack
  split <;> simp

/-- A defect hold ordered on both loops (R28, R29). -/
@[simp] theorem State.holdLoops_frame (s : State) :
    (s.holdLoops).rstnLow = s.rstnLow ∧ (s.holdLoops).lowvPin = s.lowvPin ∧ (s.holdLoops).homePin = s.homePin ∧
    (s.holdLoops).prm = s.prm ∧ (s.holdLoops).dmn = s.dmn ∧ (s.holdLoops).spc = s.spc ∧ (s.holdLoops).slc = s.slc ∧
    (s.holdLoops).pru = s.pru ∧ (s.holdLoops).mve = s.mve ∧ (s.holdLoops).arb = s.arb ∧ (s.holdLoops).dsv = s.dsv ∧
    (s.holdLoops).pifP = s.pifP ∧ (s.holdLoops).pifD = s.pifD ∧ (s.holdLoops).ctb = s.ctb ∧
    (s.holdLoops).pending = s.pending := by
  simp [State.holdLoops]

/-- A defect hold ended on the focus loop (R28, R29). -/
@[simp] theorem State.releaseFocus_frame (s : State) :
    (s.releaseFocus).rstnLow = s.rstnLow ∧ (s.releaseFocus).lowvPin = s.lowvPin ∧
    (s.releaseFocus).homePin = s.homePin ∧ (s.releaseFocus).prm = s.prm ∧ (s.releaseFocus).dfe = s.dfe ∧
    (s.releaseFocus).track = s.track ∧ (s.releaseFocus).dmn = s.dmn ∧ (s.releaseFocus).spc = s.spc ∧
    (s.releaseFocus).slc = s.slc ∧ (s.releaseFocus).pru = s.pru ∧ (s.releaseFocus).mve = s.mve ∧
    (s.releaseFocus).arb = s.arb ∧ (s.releaseFocus).dsv = s.dsv ∧ (s.releaseFocus).pifP = s.pifP ∧
    (s.releaseFocus).pifD = s.pifD ∧ (s.releaseFocus).ctb = s.ctb ∧ (s.releaseFocus).pending = s.pending := by
  unfold State.releaseFocus
  split <;> simp

/-- A defect hold ended on the tracking loop (R28, R29). -/
@[simp] theorem State.releaseTrack_frame (s : State) :
    (s.releaseTrack).rstnLow = s.rstnLow ∧ (s.releaseTrack).lowvPin = s.lowvPin ∧
    (s.releaseTrack).homePin = s.homePin ∧ (s.releaseTrack).prm = s.prm ∧ (s.releaseTrack).focus = s.focus ∧
    (s.releaseTrack).dmn = s.dmn ∧ (s.releaseTrack).spc = s.spc ∧ (s.releaseTrack).slc = s.slc ∧
    (s.releaseTrack).pru = s.pru ∧ (s.releaseTrack).mve = s.mve ∧ (s.releaseTrack).arb = s.arb ∧
    (s.releaseTrack).dsv = s.dsv ∧ (s.releaseTrack).pifP = s.pifP ∧ (s.releaseTrack).pifD = s.pifD ∧
    (s.releaseTrack).ctb = s.ctb ∧ (s.releaseTrack).pending = s.pending := by
  unfold State.releaseTrack
  split <;> simp

/-- A defect hold ended on both loops (R28, R29). -/
@[simp] theorem State.releaseLoops_frame (s : State) :
    (s.releaseLoops).rstnLow = s.rstnLow ∧ (s.releaseLoops).lowvPin = s.lowvPin ∧
    (s.releaseLoops).homePin = s.homePin ∧ (s.releaseLoops).prm = s.prm ∧ (s.releaseLoops).dmn = s.dmn ∧
    (s.releaseLoops).spc = s.spc ∧ (s.releaseLoops).slc = s.slc ∧ (s.releaseLoops).pru = s.pru ∧
    (s.releaseLoops).mve = s.mve ∧ (s.releaseLoops).arb = s.arb ∧ (s.releaseLoops).dsv = s.dsv ∧
    (s.releaseLoops).pifP = s.pifP ∧ (s.releaseLoops).pifD = s.pifD ∧ (s.releaseLoops).ctb = s.ctb ∧
    (s.releaseLoops).pending = s.pending := by
  simp [State.releaseLoops]

/-- The gain set of both loops (R31). -/
@[simp] theorem State.setGains_frame (s : State) (g : GainSet) :
    (s.setGains g).rstnLow = s.rstnLow ∧ (s.setGains g).lowvPin = s.lowvPin ∧ (s.setGains g).homePin = s.homePin ∧
    (s.setGains g).prm = s.prm ∧ (s.setGains g).dfe = s.dfe ∧ (s.setGains g).dmn = s.dmn ∧
    (s.setGains g).spc = s.spc ∧ (s.setGains g).slc = s.slc ∧ (s.setGains g).pru = s.pru ∧
    (s.setGains g).mve = s.mve ∧ (s.setGains g).arb = s.arb ∧ (s.setGains g).dsv = s.dsv ∧
    (s.setGains g).pifP = s.pifP ∧ (s.setGains g).pifD = s.pifD ∧ (s.setGains g).ctb = s.ctb ∧
    (s.setGains g).pending = s.pending := by
  simp [State.setGains]

/-- Accelerate order (R66). -/
@[simp] theorem State.accelerateOrder_frame (s : State) :
    (s.accelerateOrder).rstnLow = s.rstnLow ∧ (s.accelerateOrder).lowvPin = s.lowvPin ∧
    (s.accelerateOrder).homePin = s.homePin ∧ (s.accelerateOrder).prm = s.prm ∧ (s.accelerateOrder).dfe = s.dfe ∧
    (s.accelerateOrder).focus = s.focus ∧ (s.accelerateOrder).track = s.track ∧ (s.accelerateOrder).dmn = s.dmn ∧
    (s.accelerateOrder).slc = s.slc ∧ (s.accelerateOrder).pru = s.pru ∧ (s.accelerateOrder).mve = s.mve ∧
    (s.accelerateOrder).arb = s.arb ∧ (s.accelerateOrder).dsv = s.dsv ∧ (s.accelerateOrder).pifP = s.pifP ∧
    (s.accelerateOrder).pifD = s.pifD ∧ (s.accelerateOrder).ctb = s.ctb ∧
    (s.accelerateOrder).pending = s.pending := by
  unfold State.accelerateOrder
  split
  · split <;> simp
  · simp

/-- Coast order (R73). -/
@[simp] theorem State.coastOrder_frame (s : State) :
    (s.coastOrder).rstnLow = s.rstnLow ∧ (s.coastOrder).lowvPin = s.lowvPin ∧ (s.coastOrder).homePin = s.homePin ∧
    (s.coastOrder).prm = s.prm ∧ (s.coastOrder).dfe = s.dfe ∧ (s.coastOrder).focus = s.focus ∧
    (s.coastOrder).track = s.track ∧ (s.coastOrder).dmn = s.dmn ∧ (s.coastOrder).slc = s.slc ∧
    (s.coastOrder).pru = s.pru ∧ (s.coastOrder).mve = s.mve ∧ (s.coastOrder).arb = s.arb ∧
    (s.coastOrder).dsv = s.dsv ∧ (s.coastOrder).pifP = s.pifP ∧ (s.coastOrder).pifD = s.pifD ∧
    (s.coastOrder).ctb = s.ctb ∧ (s.coastOrder).pending = s.pending := by
  unfold State.coastOrder
  split <;> simp

/-- Brake order (R72). -/
@[simp] theorem State.brakeOrder_frame (s : State) :
    (s.brakeOrder).rstnLow = s.rstnLow ∧ (s.brakeOrder).lowvPin = s.lowvPin ∧ (s.brakeOrder).homePin = s.homePin ∧
    (s.brakeOrder).prm = s.prm ∧ (s.brakeOrder).dfe = s.dfe ∧ (s.brakeOrder).focus = s.focus ∧
    (s.brakeOrder).track = s.track ∧ (s.brakeOrder).dmn = s.dmn ∧ (s.brakeOrder).slc = s.slc ∧
    (s.brakeOrder).pru = s.pru ∧ (s.brakeOrder).mve = s.mve ∧ (s.brakeOrder).arb = s.arb ∧
    (s.brakeOrder).dsv = s.dsv ∧ (s.brakeOrder).pifP = s.pifP ∧ (s.brakeOrder).pifD = s.pifD ∧
    (s.brakeOrder).ctb = s.ctb ∧ (s.brakeOrder).pending = s.pending := by
  unfold State.brakeOrder
  split
  · split <;> simp
  · simp

/-- The drive permit withdrawn (R65). -/
@[simp] theorem State.withdrawPermit_frame (s : State) :
    (s.withdrawPermit).rstnLow = s.rstnLow ∧ (s.withdrawPermit).lowvPin = s.lowvPin ∧
    (s.withdrawPermit).homePin = s.homePin ∧ (s.withdrawPermit).prm = s.prm ∧ (s.withdrawPermit).dfe = s.dfe ∧
    (s.withdrawPermit).focus = s.focus ∧ (s.withdrawPermit).track = s.track ∧ (s.withdrawPermit).dmn = s.dmn ∧
    (s.withdrawPermit).slc = s.slc ∧ (s.withdrawPermit).pru = s.pru ∧ (s.withdrawPermit).mve = s.mve ∧
    (s.withdrawPermit).arb = s.arb ∧ (s.withdrawPermit).dsv = s.dsv ∧ (s.withdrawPermit).pifP = s.pifP ∧
    (s.withdrawPermit).pifD = s.pifD ∧ (s.withdrawPermit).ctb = s.ctb ∧ (s.withdrawPermit).pending = s.pending := by
  simp [State.withdrawPermit]

/-- The drive permit withdrawn where it was granted (R159). -/
@[simp] theorem State.withdrawGranted_frame (s : State) :
    (s.withdrawGranted).rstnLow = s.rstnLow ∧ (s.withdrawGranted).lowvPin = s.lowvPin ∧
    (s.withdrawGranted).homePin = s.homePin ∧ (s.withdrawGranted).prm = s.prm ∧ (s.withdrawGranted).dfe = s.dfe ∧
    (s.withdrawGranted).focus = s.focus ∧ (s.withdrawGranted).track = s.track ∧ (s.withdrawGranted).dmn = s.dmn ∧
    (s.withdrawGranted).slc = s.slc ∧ (s.withdrawGranted).pru = s.pru ∧ (s.withdrawGranted).mve = s.mve ∧
    (s.withdrawGranted).arb = s.arb ∧ (s.withdrawGranted).dsv = s.dsv ∧ (s.withdrawGranted).pifP = s.pifP ∧
    (s.withdrawGranted).pifD = s.pifD ∧ (s.withdrawGranted).ctb = s.ctb ∧
    (s.withdrawGranted).pending = s.pending := by
  unfold State.withdrawGranted
  split <;> simp

/-- The drive permit granted (R65). -/
@[simp] theorem State.grantPermit_frame (s : State) :
    (s.grantPermit).rstnLow = s.rstnLow ∧ (s.grantPermit).lowvPin = s.lowvPin ∧
    (s.grantPermit).homePin = s.homePin ∧ (s.grantPermit).prm = s.prm ∧ (s.grantPermit).dfe = s.dfe ∧
    (s.grantPermit).focus = s.focus ∧ (s.grantPermit).track = s.track ∧ (s.grantPermit).dmn = s.dmn ∧
    (s.grantPermit).slc = s.slc ∧ (s.grantPermit).pru = s.pru ∧ (s.grantPermit).mve = s.mve ∧
    (s.grantPermit).arb = s.arb ∧ (s.grantPermit).dsv = s.dsv ∧ (s.grantPermit).pifP = s.pifP ∧
    (s.grantPermit).pifD = s.pifD ∧ (s.grantPermit).ctb = s.ctb ∧ (s.grantPermit).pending = s.pending := by
  unfold State.grantPermit
  split <;> simp

/-- Homing completes (R78). -/
@[simp] theorem State.homingComplete_frame (s : State) :
    (s.homingComplete).rstnLow = s.rstnLow ∧ (s.homingComplete).lowvPin = s.lowvPin ∧
    (s.homingComplete).homePin = s.homePin ∧ (s.homingComplete).prm = s.prm ∧ (s.homingComplete).dfe = s.dfe ∧
    (s.homingComplete).focus = s.focus ∧ (s.homingComplete).track = s.track ∧ (s.homingComplete).dmn = s.dmn ∧
    (s.homingComplete).mve = s.mve ∧ (s.homingComplete).arb = s.arb ∧ (s.homingComplete).dsv = s.dsv ∧
    (s.homingComplete).pifP = s.pifP ∧ (s.homingComplete).pifD = s.pifD ∧ (s.homingComplete).ctb = s.ctb ∧
    (s.homingComplete).pending = s.pending := by
  simp [State.homingComplete]

/-- Homing order (R77). -/
@[simp] theorem State.homingOrder_frame (s : State) :
    (s.homingOrder).rstnLow = s.rstnLow ∧ (s.homingOrder).lowvPin = s.lowvPin ∧
    (s.homingOrder).homePin = s.homePin ∧ (s.homingOrder).prm = s.prm ∧ (s.homingOrder).dfe = s.dfe ∧
    (s.homingOrder).focus = s.focus ∧ (s.homingOrder).track = s.track ∧ (s.homingOrder).dmn = s.dmn ∧
    (s.homingOrder).mve = s.mve ∧ (s.homingOrder).arb = s.arb ∧ (s.homingOrder).dsv = s.dsv ∧
    (s.homingOrder).pifP = s.pifP ∧ (s.homingOrder).pifD = s.pifD ∧ (s.homingOrder).ctb = s.ctb ∧
    (s.homingOrder).pending = s.pending := by
  unfold State.homingOrder
  dsimp only
  split <;> simp

/-- Seek drive order (R79). -/
@[simp] theorem State.seekDriveOrder_frame (s : State) (d : Dir) :
    (s.seekDriveOrder d).rstnLow = s.rstnLow ∧ (s.seekDriveOrder d).lowvPin = s.lowvPin ∧
    (s.seekDriveOrder d).homePin = s.homePin ∧ (s.seekDriveOrder d).prm = s.prm ∧ (s.seekDriveOrder d).dfe = s.dfe ∧
    (s.seekDriveOrder d).focus = s.focus ∧ (s.seekDriveOrder d).track = s.track ∧ (s.seekDriveOrder d).dmn = s.dmn ∧
    (s.seekDriveOrder d).spc = s.spc ∧ (s.seekDriveOrder d).pru = s.pru ∧ (s.seekDriveOrder d).mve = s.mve ∧
    (s.seekDriveOrder d).arb = s.arb ∧ (s.seekDriveOrder d).dsv = s.dsv ∧ (s.seekDriveOrder d).pifP = s.pifP ∧
    (s.seekDriveOrder d).pifD = s.pifD ∧ (s.seekDriveOrder d).ctb = s.ctb ∧
    (s.seekDriveOrder d).pending = s.pending := by
  simp [State.seekDriveOrder]

/-- Sled stop order (R79). -/
@[simp] theorem State.sledStop_frame (s : State) :
    (s.sledStop).rstnLow = s.rstnLow ∧ (s.sledStop).lowvPin = s.lowvPin ∧ (s.sledStop).homePin = s.homePin ∧
    (s.sledStop).prm = s.prm ∧ (s.sledStop).dfe = s.dfe ∧ (s.sledStop).focus = s.focus ∧
    (s.sledStop).track = s.track ∧ (s.sledStop).dmn = s.dmn ∧ (s.sledStop).spc = s.spc ∧ (s.sledStop).pru = s.pru ∧
    (s.sledStop).mve = s.mve ∧ (s.sledStop).arb = s.arb ∧ (s.sledStop).dsv = s.dsv ∧ (s.sledStop).pifP = s.pifP ∧
    (s.sledStop).pifD = s.pifD ∧ (s.sledStop).ctb = s.ctb ∧ (s.sledStop).pending = s.pending := by
  unfold State.sledStop
  split <;> simp

/-- A result stored (R172). -/
@[simp] theorem State.storeResult_frame (s : State) (r : Result) :
    (s.storeResult r).rstnLow = s.rstnLow ∧ (s.storeResult r).lowvPin = s.lowvPin ∧
    (s.storeResult r).homePin = s.homePin ∧ (s.storeResult r).prm = s.prm ∧ (s.storeResult r).dfe = s.dfe ∧
    (s.storeResult r).focus = s.focus ∧ (s.storeResult r).track = s.track ∧ (s.storeResult r).dmn = s.dmn ∧
    (s.storeResult r).spc = s.spc ∧ (s.storeResult r).slc = s.slc ∧ (s.storeResult r).pru = s.pru ∧
    (s.storeResult r).mve = s.mve ∧ (s.storeResult r).arb = s.arb ∧ (s.storeResult r).dsv = s.dsv ∧
    (s.storeResult r).ctb = s.ctb ∧ (s.storeResult r).pending = s.pending := by
  unfold State.storeResult
  dsimp only
  split <;> simp

/-- A queue replaced. -/
@[simp] theorem State.setQueue_frame (s : State) (p : Port) (q : List Entry) :
    (s.setQueue p q).rstnLow = s.rstnLow ∧ (s.setQueue p q).lowvPin = s.lowvPin ∧
    (s.setQueue p q).homePin = s.homePin ∧ (s.setQueue p q).prm = s.prm ∧ (s.setQueue p q).dfe = s.dfe ∧
    (s.setQueue p q).focus = s.focus ∧ (s.setQueue p q).track = s.track ∧ (s.setQueue p q).dmn = s.dmn ∧
    (s.setQueue p q).spc = s.spc ∧ (s.setQueue p q).slc = s.slc ∧ (s.setQueue p q).pru = s.pru ∧
    (s.setQueue p q).mve = s.mve ∧ (s.setQueue p q).dsv = s.dsv ∧ (s.setQueue p q).pifP = s.pifP ∧
    (s.setQueue p q).pifD = s.pifD ∧ (s.setQueue p q).ctb = s.ctb ∧ (s.setQueue p q).pending = s.pending := by
  cases p <;> simp [State.setQueue]

/-- A queue shortened (R135). -/
@[simp] theorem State.shrinkQueue_frame (s : State) (p : Port) (q : List Entry) :
    (s.shrinkQueue p q).rstnLow = s.rstnLow ∧ (s.shrinkQueue p q).lowvPin = s.lowvPin ∧
    (s.shrinkQueue p q).homePin = s.homePin ∧ (s.shrinkQueue p q).prm = s.prm ∧ (s.shrinkQueue p q).dfe = s.dfe ∧
    (s.shrinkQueue p q).focus = s.focus ∧ (s.shrinkQueue p q).track = s.track ∧ (s.shrinkQueue p q).dmn = s.dmn ∧
    (s.shrinkQueue p q).spc = s.spc ∧ (s.shrinkQueue p q).slc = s.slc ∧ (s.shrinkQueue p q).pru = s.pru ∧
    (s.shrinkQueue p q).mve = s.mve ∧ (s.shrinkQueue p q).dsv = s.dsv ∧ (s.shrinkQueue p q).ctb = s.ctb ∧
    (s.shrinkQueue p q).pending = s.pending := by
  unfold State.shrinkQueue
  dsimp only
  split <;> simp

/-- A completion at the Arbiter (R148). -/
@[simp] theorem State.arbComplete_frame (s : State) (o : Option MoveOutcome) (c : Bool) :
    (s.arbComplete o c).rstnLow = s.rstnLow ∧ (s.arbComplete o c).lowvPin = s.lowvPin ∧
    (s.arbComplete o c).homePin = s.homePin ∧ (s.arbComplete o c).prm = s.prm ∧ (s.arbComplete o c).dfe = s.dfe ∧
    (s.arbComplete o c).focus = s.focus ∧ (s.arbComplete o c).track = s.track ∧ (s.arbComplete o c).dmn = s.dmn ∧
    (s.arbComplete o c).spc = s.spc ∧ (s.arbComplete o c).slc = s.slc ∧ (s.arbComplete o c).pru = s.pru ∧
    (s.arbComplete o c).mve = s.mve ∧ (s.arbComplete o c).dsv = s.dsv ∧ (s.arbComplete o c).ctb = s.ctb ∧
    (s.arbComplete o c).pending = s.pending := by
  unfold State.arbComplete
  dsimp only
  split <;> simp

/-- Result and completion handed on (R106). -/
@[simp] theorem State.finishMove_frame (s : State) (m : Option ActiveMove) (o : MoveOutcome) (v : Option Nat) :
    (s.finishMove m o v).rstnLow = s.rstnLow ∧ (s.finishMove m o v).lowvPin = s.lowvPin ∧
    (s.finishMove m o v).homePin = s.homePin ∧ (s.finishMove m o v).prm = s.prm ∧ (s.finishMove m o v).dfe = s.dfe ∧
    (s.finishMove m o v).focus = s.focus ∧ (s.finishMove m o v).track = s.track ∧ (s.finishMove m o v).dmn = s.dmn ∧
    (s.finishMove m o v).spc = s.spc ∧ (s.finishMove m o v).slc = s.slc ∧ (s.finishMove m o v).pru = s.pru ∧
    (s.finishMove m o v).mve = s.mve ∧ (s.finishMove m o v).dsv = s.dsv ∧ (s.finishMove m o v).ctb = s.ctb ∧
    (s.finishMove m o v).pending = s.pending := by
  unfold State.finishMove
  split <;> simp

/-- A fault latched (R164). -/
@[simp] theorem State.latchFault_frame (s : State) (k : FaultKind) :
    (s.latchFault k).rstnLow = s.rstnLow ∧ (s.latchFault k).lowvPin = s.lowvPin ∧
    (s.latchFault k).homePin = s.homePin ∧ (s.latchFault k).prm = s.prm ∧ (s.latchFault k).dfe = s.dfe ∧
    (s.latchFault k).focus = s.focus ∧ (s.latchFault k).track = s.track ∧ (s.latchFault k).dmn = s.dmn ∧
    (s.latchFault k).spc = s.spc ∧ (s.latchFault k).slc = s.slc ∧ (s.latchFault k).pru = s.pru ∧
    (s.latchFault k).mve = s.mve ∧ (s.latchFault k).arb = s.arb ∧ (s.latchFault k).ctb = s.ctb ∧
    (s.latchFault k).pending = s.pending := by
  unfold State.latchFault
  split <;> simp

/-- The recovery kind NONE. -/
@[simp] theorem State.noRecovery_frame (s : State) :
    (s.noRecovery).rstnLow = s.rstnLow ∧ (s.noRecovery).lowvPin = s.lowvPin ∧ (s.noRecovery).homePin = s.homePin ∧
    (s.noRecovery).prm = s.prm ∧ (s.noRecovery).dfe = s.dfe ∧ (s.noRecovery).focus = s.focus ∧
    (s.noRecovery).track = s.track ∧ (s.noRecovery).dmn = s.dmn ∧ (s.noRecovery).spc = s.spc ∧
    (s.noRecovery).slc = s.slc ∧ (s.noRecovery).pru = s.pru ∧ (s.noRecovery).mve = s.mve ∧
    (s.noRecovery).arb = s.arb ∧ (s.noRecovery).pifP = s.pifP ∧ (s.noRecovery).pifD = s.pifD ∧
    (s.noRecovery).ctb = s.ctb ∧ (s.noRecovery).pending = s.pending := by
  simp [State.noRecovery]

/-- The active move ended (R106). -/
@[simp] theorem State.endMove_frame (s : State) :
    (s.endMove).rstnLow = s.rstnLow ∧ (s.endMove).lowvPin = s.lowvPin ∧ (s.endMove).homePin = s.homePin ∧
    (s.endMove).prm = s.prm ∧ (s.endMove).dfe = s.dfe ∧ (s.endMove).focus = s.focus ∧ (s.endMove).track = s.track ∧
    (s.endMove).dmn = s.dmn ∧ (s.endMove).spc = s.spc ∧ (s.endMove).slc = s.slc ∧ (s.endMove).pru = s.pru ∧
    (s.endMove).arb = s.arb ∧ (s.endMove).dsv = s.dsv ∧ (s.endMove).pifP = s.pifP ∧ (s.endMove).pifD = s.pifD ∧
    (s.endMove).ctb = s.ctb ∧ (s.endMove).pending = s.pending := by
  simp [State.endMove]

/-- All work in flight ended (R129). -/
@[simp] theorem State.endWork_frame (s : State) :
    (s.endWork).rstnLow = s.rstnLow ∧ (s.endWork).lowvPin = s.lowvPin ∧ (s.endWork).homePin = s.homePin ∧
    (s.endWork).prm = s.prm ∧ (s.endWork).dfe = s.dfe ∧ (s.endWork).focus = s.focus ∧ (s.endWork).track = s.track ∧
    (s.endWork).dmn = s.dmn ∧ (s.endWork).spc = s.spc ∧ (s.endWork).slc = s.slc ∧ (s.endWork).pru = s.pru ∧
    (s.endWork).arb = s.arb ∧ (s.endWork).dsv = s.dsv ∧ (s.endWork).pifP = s.pifP ∧ (s.endWork).pifD = s.pifD ∧
    (s.endWork).ctb = s.ctb ∧ (s.endWork).pending = s.pending := by
  simp [State.endWork]

/-! ### What the touched blocks become -/

@[simp] theorem State.setDrive_dsv (s : State) (d : DriveState) :
    (s.setDrive d).dsv = { s.dsv with drive := d } := by
  unfold State.setDrive
  split
  · next h => subst h; rfl
  · simp

@[simp] theorem State.laserOff_dsv (s : State) : s.laserOff.dsv = { s.dsv with laser := false } := rfl

@[simp] theorem State.noRecovery_dsv (s : State) : s.noRecovery.dsv = { s.dsv with recovery := .none } := rfl

@[simp] theorem State.endMove_mve (s : State) : s.endMove.mve = s.mve.endMove := rfl

@[simp] theorem State.endWork_mve (s : State) :
    s.endWork.mve =
      { s.mve.endMove with
        holdJump := .none, holdTimer := s.mve.holdTimer.stop, settling := false, activity := .none } := rfl

@[simp] theorem State.latchFault_drive (s : State) (k : FaultKind) :
    (s.latchFault k).dsv.drive = s.dsv.drive ∧ (s.latchFault k).dsv.clamp = s.dsv.clamp ∧
      (s.latchFault k).dsv.laser = s.dsv.laser ∧ (s.latchFault k).dsv.lowv = s.dsv.lowv ∧
      (s.latchFault k).dsv.recovery = s.dsv.recovery := by
  unfold State.latchFault
  split <;> simp

@[simp] theorem State.focusOpen_loops (s : State) :
    s.focusOpen.focus = s.focus.emptied ∧ s.focusOpen.track = s.track.emptied .opened := by
  simp [State.focusOpen, State.trackOpen, State.setTrack]

@[simp] theorem State.laserOn_dsv (s : State) :
    s.laserOn.dsv =
      if s.dsv.clamp = .clamped && !s.dsv.lowv then { s.dsv with laser := true } else s.dsv := by
  unfold State.laserOn
  split <;> rfl

@[simp] theorem State.clearMark_arb (s : State) (tell : Bool) :
    (s.clearMark tell).arb = { s.arb with mark := none } := by
  unfold State.clearMark
  split
  · next h => rw [← h]
  · cases tell <;> simp

@[simp] theorem State.dropAnchor_pru (s : State) :
    s.dropAnchor.pru.anchor = none ∧ s.dropAnchor.pru.trackIndex = s.pru.trackIndex ∧
      s.dropAnchor.pru.zones = s.pru.zones ∧ s.dropAnchor.pru.revs = s.pru.revs := by
  unfold State.dropAnchor
  split
  · next h => exact ⟨h, rfl, rfl, rfl⟩
  · exact ⟨rfl, rfl, rfl, rfl⟩

@[simp] theorem State.endHoldJump_mve (s : State) :
    s.endHoldJump.mve = { s.mve with holdJump := .none, holdTimer := s.mve.holdTimer.stop } := rfl

theorem State.leaveDrive_mve (s : State) (d : DriveState) :
    (s.leaveDrive d).mve =
      if d = .holding then { s.mve with holdJump := .none, holdTimer := s.mve.holdTimer.stop } else s.mve := by
  unfold State.leaveDrive
  split <;> rfl

/-- A change of the drive state touches no more of the Move Engine than a holding jump. -/
@[simp] theorem State.setDrive_mve (s : State) (d : DriveState) :
    (s.setDrive d).mve.active = s.mve.active ∧ (s.setDrive d).mve.returnState = s.mve.returnState ∧
      (s.setDrive d).mve.activity = s.mve.activity ∧ (s.setDrive d).mve.phase = s.mve.phase ∧
      (s.setDrive d).mve.measured = s.mve.measured := by
  unfold State.setDrive
  split
  · simp
  · rw [State.leaveDrive_mve]
    split <;> simp

end Sys2Proof.Machine
end

