-- ==== Sys2Proof/Laws/Leaves.lean ====
section
/-!
SUPPORT. Each shared order keeps the laws of `State.Core` (Safety.lean): one lemma per order, which says under what
condition it does.
-/

namespace Sys2Proof.Machine

variable {s : State}

/-! ### Ranges -/

theorem clampI_range {lo hi : Int} (h : lo ≤ hi) (x : Int) : lo ≤ clampI lo hi x ∧ clampI lo hi x ≤ hi := by
  unfold clampI
  split <;> (try split) <;> omega

theorem Params.InRange.span {m : Params} (h : m.InRange) : 256 ≤ m.searchSpan ∧ m.searchSpan ≤ 2047 := by
  have := h.1 .searchSpan
  simp only [ParamId.lo, ParamId.hi, Params.get] at this
  omega

theorem Params.InRange.kickRange {m : Params} (h : m.InRange) : 100 ≤ m.kick ∧ m.kick ≤ 2047 := by
  have := h.1 .kick
  simp only [ParamId.lo, ParamId.hi, Params.get] at this
  omega

theorem Params.InRange.homeRange {m : Params} (h : m.InRange) : -2048 ≤ m.homeTrack ∧ m.homeTrack ≤ -1 := by
  have := h.1 .homeTrack
  simp only [ParamId.lo, ParamId.hi, Params.get] at this
  omega

theorem driveRange_zero : driveRange 0 := by unfold driveRange; omega

theorem integRange_zero : integRange 0 := by
  unfold integRange Config.minIntegrator Config.maxIntegrator; omega

theorem kickDrive_range {k : Nat} (h : k ≤ 2047) (d : Dir) (ph : KickPhase) : driveRange (kickDrive k d ph) := by
  unfold driveRange kickDrive
  cases d <;> cases ph <;> simp only [Dir.step] <;> omega

/-! ### Ports, notices, counters -/

theorem Pif.StoreLaw.flagged {v : Pif} (h : v.StoreLaw) (x : BitVec 12) : ({ v with flags := x } : Pif).StoreLaw := h

theorem State.Core.raise (h : s.Core) (p : Port) (n : Notice) : (s.raise p n).Core := by
  cases p
  · exact { h with storeP := h.storeP.flagged _ }
  · exact { h with storeD := h.storeD.flagged _ }

theorem State.Core.raiseBoth (h : s.Core) (n : Notice) : (s.raiseBoth n).Core := (h.raise _ _).raise _ _

theorem State.Core.judgeHalf (h : s.Core) (c : CounterId) (p : Port) : (s.judgeHalf c p).Core := by
  unfold State.judgeHalf
  split
  · exact h.raise _ _
  · exact h

theorem State.Core.bump (h : s.Core) (c : CounterId) : (s.bump c).Core :=
  State.Core.judgeHalf (State.Core.judgeHalf (s := { s with ctb := s.ctb.put c (s.ctb.get c + 1) }) { h with } _ _) _ _

/-! ### Position record and mark -/

theorem State.Core.dropAnchor (h : s.Core) : s.dropAnchor.Core := by
  unfold State.dropAnchor
  split
  · exact h
  · exact { h with anchor := ⟨fun hh => by simp at hh, h.anchor.2⟩ }

theorem State.dropAnchor_anchor (s : State) : s.dropAnchor.pru.anchor = none := by
  unfold State.dropAnchor
  split
  · assumption
  · rfl

theorem State.dropAnchor_index (s : State) : s.dropAnchor.pru.trackIndex = s.pru.trackIndex := by
  unfold State.dropAnchor
  split <;> rfl

theorem State.Core.formEstimate (h : s.Core) : s.formEstimate.Core := by
  unfold State.formEstimate
  split
  · exact h
  · next ha _ => exact { h with anchor := ⟨fun _ => h.anchor.1 (by rw [ha]; rfl), h.anchor.2⟩ }
  · exact h.dropAnchor

theorem State.retarget_target (s : State) :
    s.retarget.spc.target = targetPeriod s.pru.trackIndex s.prm.sf s.prm.kclv := rfl

/-- The laws that do not speak of the target period hold of a state whose period is computed again. -/
theorem State.Core.setIndex (h : s.Core) {n : Int} (lo : Config.minTrack ≤ n) (hi : n ≤ Config.maxTrack) :
    (s.setIndex n).Core := by
  unfold State.setIndex
  split
  · exact h
  · refine State.Core.formEstimate ?_
    exact { h with index := ⟨lo, hi, rfl⟩ }

theorem State.Core.moveIndex (h : s.Core) (d : Int) : (s.moveIndex d).Core :=
  have := clampI_range (lo := Config.minTrack) (hi := Config.maxTrack) (by decide) (s.pru.trackIndex + d)
  h.setIndex this.1 this.2

theorem State.Core.clearMark (h : s.Core) (tell : Bool) : (s.clearMark tell).Core := by
  unfold State.clearMark
  split
  · exact h
  · have : State.Core { s with arb := { s.arb with mark := none } } :=
      { h with anchor := ⟨h.anchor.1, fun hh => by simp at hh⟩, queues := h.queues }
    cases tell
    · exact this
    · exact this.raise _ _

theorem State.clearMark_mark (s : State) (tell : Bool) : (s.clearMark tell).arb.mark = none := by
  unfold State.clearMark
  split
  · assumption
  · cases tell <;> simp

/-! ### Loop commands -/

theorem State.Core.trackOpen (h : s.Core) : s.trackOpen.Core :=
  { h with
    loops := fun hn => absurd rfl hn
    rest := ⟨h.rest.1, fun _ => rfl⟩
    range := ⟨h.range.1, h.range.2.1, driveRange_zero, h.range.2.2.2.1, integRange_zero, h.range.2.2.2.2.2⟩ }

theorem State.Core.focusOpen (h : s.Core) : s.focusOpen.Core :=
  { h.trackOpen with
    loops := fun hn => absurd rfl hn
    rest := ⟨fun _ => rfl, fun _ => rfl⟩
    dark := fun _ => rfl
    range :=
      ⟨h.range.1, driveRange_zero, driveRange_zero, integRange_zero, integRange_zero, h.range.2.2.2.2.2⟩ }

theorem State.Core.searchCommand (h : s.Core) : s.searchCommand.Core := by
  unfold State.searchCommand
  split
  · next hl =>
    have sp := h.range.1.span
    exact
      { h.trackOpen with
        loops := fun hn => absurd rfl hn
        rest := ⟨fun hn => by simp at hn, fun _ => rfl⟩
        dark := fun hn => absurd ((show s.dsv.laser = true from hl).symm.trans hn) (by decide)
        range :=
          ⟨h.range.1, ⟨show (-2048 : Int) ≤ -(s.prm.searchSpan : Int) by omega,
            show -(s.prm.searchSpan : Int) ≤ 2047 by omega⟩, driveRange_zero, integRange_zero, integRange_zero,
            h.range.2.2.2.2.2⟩ }
  · exact h

theorem State.lensTaken_iff (s : State) :
    s.lensTaken = true ↔ s.dsv.laser = true ∧ s.focus.state.locked = true := by
  simp [State.lensTaken]

theorem State.Core.closeCommand (h : s.Core) : s.closeCommand.Core := by
  unfold State.closeCommand
  split
  · next hl =>
    exact
      { h with
        loops := fun _ => ((State.lensTaken_iff s).mp hl).2
        rest := ⟨h.rest.1, fun _ => rfl⟩
        range := ⟨h.range.1, h.range.2.1, driveRange_zero, h.range.2.2.2.1, integRange_zero, h.range.2.2.2.2.2⟩ }
  · exact h

theorem State.Core.jumpCommand (h : s.Core) (d : Dir) : (s.jumpCommand d).Core := by
  unfold State.jumpCommand
  split
  · next hl =>
    exact
      { h with
        loops := fun _ => ((State.lensTaken_iff s).mp hl).2
        rest := ⟨h.rest.1, fun hn => by rcases hn with hn | hn <;> cases hn⟩
        range :=
          ⟨h.range.1, h.range.2.1, (kickDrive_range h.range.1.kickRange.2 d .kick :), h.range.2.2.2.1,
            integRange_zero, h.range.2.2.2.2.2⟩ }
  · exact h

theorem State.Core.brakeCommand (h : s.Core) : s.brakeCommand.Core := by
  unfold State.brakeCommand
  split
  · next hj =>
    exact
      { h with
        loops := h.loops
        rest := ⟨h.rest.1, fun hn => by simp [hj.1] at hn⟩
        range :=
          ⟨h.range.1, h.range.2.1, (kickDrive_range h.range.1.kickRange.2 s.track.jumpDir .brake :),
            h.range.2.2.2.1, h.range.2.2.2.2.1, h.range.2.2.2.2.2⟩ }
  · exact h

theorem State.Core.holdFocus (h : s.Core) : s.holdFocus.Core := by
  unfold State.holdFocus
  split
  · next hc =>
    exact
      { h with
        loops := fun _ => rfl
        rest := ⟨fun hn => by simp at hn, h.rest.2⟩
        dark := fun hn => by have := h.dark hn; simp [hc] at this }
  · exact h

theorem State.Core.holdTrack (h : s.Core) : s.holdTrack.Core := by
  unfold State.holdTrack
  split
  · next ht =>
    exact
      { h with
        loops := fun _ => h.loops (by rw [ht]; decide)
        rest := ⟨h.rest.1, fun hn => by rcases hn with hn | hn <;> cases hn⟩
        range := h.range }
  · exact h

theorem State.Core.holdLoops (h : s.Core) : s.holdLoops.Core := h.holdFocus.holdTrack

theorem State.Core.releaseFocus (h : s.Core) : s.releaseFocus.Core := by
  unfold State.releaseFocus
  split
  · next hc =>
    exact
      { h with
        loops := fun _ => rfl
        rest := ⟨fun hn => by simp at hn, h.rest.2⟩
        dark := fun hn => by have := h.dark hn; simp [hc] at this }
  · exact h

theorem State.Core.releaseTrack (h : s.Core) : s.releaseTrack.Core := by
  unfold State.releaseTrack
  split
  · next ht =>
    exact
      { h with
        loops := fun _ => h.loops (by rw [ht]; decide)
        rest := ⟨h.rest.1, fun hn => by rcases hn with hn | hn <;> cases hn⟩
        range := h.range }
  · exact h

theorem State.Core.releaseLoops (h : s.Core) : s.releaseLoops.Core := h.releaseFocus.releaseTrack

theorem State.Core.setGains (h : s.Core) (g : GainSet) : (s.setGains g).Core := { h with }

/-! ### Spindle and sled orders -/

theorem Spc.DutyLaw.rest {c : Spc} (h : c.DutyLaw) {st : SpindleState}
    (hs : st = .stopped ∨ st = .rundown ∨ st = .coast) : (c.rest st).DutyLaw := by
  refine ⟨h.1, ?_, fun _ => hs⟩
  rcases hs with rfl | rfl | rfl <;> exact ⟨rfl, rfl⟩

theorem State.Core.accelerateOrder (h : s.Core) : s.accelerateOrder.Core := by
  unfold State.accelerateOrder
  split
  · next hp =>
    have : State.Core { s with spc := s.spc.accelerate } :=
      { h with
        permit := h.permit
        duty := ⟨h.duty.1, ⟨rfl, rfl⟩, fun hn => absurd (hp.symm.trans hn) (by decide)⟩
        index := h.index }
    split <;> assumption
  · exact h

theorem State.Core.coastOrder (h : s.Core) : s.coastOrder.Core := by
  unfold State.coastOrder
  have : State.Core { s with spc := { s.spc.rest .coast with inRun := 0, outRun := 0 } } :=
    { h with
      permit := h.permit
      duty := ⟨h.duty.1, ⟨rfl, rfl⟩, fun _ => Or.inr (Or.inr rfl)⟩
      index := h.index }
  split <;> assumption

theorem State.Core.brakeOrder (h : s.Core) : s.brakeOrder.Core := by
  unfold State.brakeOrder
  split
  · next hp =>
    split
    all_goals first
      | exact h
      | exact
          { h with
            permit := h.permit
            duty := ⟨h.duty.1, ⟨rfl, rfl⟩, fun hn => absurd (hp.symm.trans hn) (by decide)⟩
            index := h.index }
  · exact h.coastOrder

theorem State.Core.homingComplete (h : s.Core) : s.homingComplete.Core := by
  have hr := h.range.1.homeRange
  unfold State.homingComplete
  refine State.Core.setIndex
    (s := { s with
      slc := { s.slc with state := .atHome, duty := 0, homingTimer := s.slc.homingTimer.stop, homed := true } })
    { h with } ?_ ?_
  · show (-2048 : Int) ≤ s.prm.homeTrack; exact hr.1
  · show s.prm.homeTrack ≤ (21999 : Int); omega

theorem State.Core.homingOrder (h : s.Core) : s.homingOrder.Core := by
  unfold State.homingOrder
  dsimp only
  split
  · exact State.Core.homingComplete { h with }
  · exact { h with }

theorem State.Core.seekDriveOrder (h : s.Core) (d : Dir) : (s.seekDriveOrder d).Core := { h with }

theorem State.Core.sledStop (h : s.Core) : s.sledStop.Core := by
  unfold State.sledStop
  split <;> exact { h with }

/-! ### Drive state, laser, work -/

theorem State.Core.endHoldJump (h : s.Core) : s.endHoldJump.Core :=
  { h with
    work := ⟨h.work.1, fun hn => absurd rfl hn, h.work.2.2⟩
    range := h.range }

theorem State.Core.endMove (h : s.Core) : s.endMove.Core :=
  { h with
    work := ⟨fun _ hn => (nomatch hn), h.work.2.1, h.work.2.2⟩
    range := h.range }

theorem State.Core.endWork (h : s.Core) : s.endWork.Core :=
  { h with
    work := ⟨fun _ hn => (nomatch hn), fun hn => absurd rfl hn, fun hn => absurd rfl hn⟩
    range := h.range }

theorem State.Core.noRecovery (h : s.Core) : s.noRecovery.Core := { h with }

theorem State.Core.laserOff (h : s.Core) (hf : s.focus.state = .opened) : s.laserOff.Core :=
  { h with dark := fun _ => hf }

theorem State.Core.laserOn (h : s.Core) : s.laserOn.Core := by
  unfold State.laserOn
  split
  · exact { h with dark := fun hn => by simp at hn }
  · exact h

theorem State.Core.storeResult (h : s.Core) (r : Result) : (s.storeResult r).Core := by
  have key : ∀ v : Pif, v.StoreLaw →
      (match v.older, v.newer with
        | none, _ => { v with older := some r }
        | some _, none => { v with newer := some r }
        | some _, some _ => { v with newer := some r, dropped := satN 255 (v.dropped + 1) } : Pif).StoreLaw := by
    intro v hv
    split
    · exact ⟨fun _ => rfl, hv.2⟩
    · next ho _ => exact ⟨fun _ => by simp [ho], hv.2⟩
    · next ho _ => exact ⟨fun _ => by simp [ho], Nat.min_le_right _ _, hv.2.2⟩
  unfold State.storeResult
  refine State.Core.raise ?_ _ _
  rcases hp : r.port with _ | _
  · exact { h with storeP := key _ h.storeP }
  · exact { h with storeD := key _ h.storeD }

theorem State.Core.setQueue (h : s.Core) (p : Port) {q : List Entry} (hq : q.length ≤ Config.queueDepth) :
    (s.setQueue p q).Core := by
  cases p
  · exact { h with queues := ⟨hq, h.queues.2⟩ }
  · exact { h with queues := ⟨h.queues.1, hq, h.queues.2.2⟩ }

theorem State.Core.shrinkQueue (h : s.Core) (p : Port) {q : List Entry} (hq : q.length ≤ Config.queueDepth) :
    (s.shrinkQueue p q).Core := by
  unfold State.shrinkQueue
  dsimp only
  split
  · exact (h.setQueue p hq).raise _ _
  · exact h.setQueue p hq

theorem State.Core.arbComplete (h : s.Core) (o : Option MoveOutcome) (c : Bool) : (s.arbComplete o c).Core := by
  have hP : s.arb.queueP.tail.length ≤ Config.queueDepth := by
    have := h.queues.1; simp only [List.length_tail]; omega
  have hD : s.arb.queueD.tail.length ≤ Config.queueDepth := by
    have := h.queues.2.1; simp only [List.length_tail]; omega
  unfold State.arbComplete
  dsimp only
  split
  · have := h.shrinkQueue .portP hP
    exact { this with queues := this.queues, anchor := this.anchor }
  · have := h.shrinkQueue .portD hD
    exact { this with queues := this.queues, anchor := this.anchor }
  · exact { h with queues := ⟨h.queues.1, h.queues.2.1, fun hn => by simp at hn⟩, anchor := h.anchor }
  · exact { h with queues := h.queues, anchor := h.anchor }

theorem State.Core.finishMove (h : s.Core) (m : Option ActiveMove) (o : MoveOutcome) (v : Option Nat) :
    (s.finishMove m o v).Core := by
  unfold State.finishMove
  split
  · exact h
  · exact (h.storeResult _).arbComplete _ _

/-- The fault record that a fault latches (R164). -/
theorem State.latchFault_none (k : FaultKind) (h : s.dsv.record = none) :
    ∃ r : FaultRecord, s.latchFault k =
      ({ s with dsv := { s.dsv with record := some r } } : State).raiseBoth .fault ∧ r.kind = k ∧
        r.drive = s.dsv.drive := by
  unfold State.latchFault
  rw [h]
  exact ⟨_, rfl, rfl, rfl⟩

theorem State.Core.latchFault (h : s.Core) (k : FaultKind) : (s.latchFault k).Core := by
  rcases hr : s.dsv.record with _ | r
  · obtain ⟨r, hr, -, -⟩ := State.latchFault_none k hr
    rw [hr]
    exact State.Core.raiseBoth (s := { s with dsv := { s.dsv with record := some r } })
      { h with record := fun _ => rfl } _
  · unfold State.latchFault
    rw [hr]
    exact { h with record := fun _ => by simp [hr], dark := h.dark, permit := h.permit }

theorem Pif.StoreLaw.raise (h : s.pifP.StoreLaw ∧ s.pifD.StoreLaw) (p : Port) (n : Notice) :
    (s.raise p n).pifP.StoreLaw ∧ (s.raise p n).pifD.StoreLaw := by
  cases p
  · exact ⟨h.1.flagged _, h.2⟩
  · exact ⟨h.1, h.2.flagged _⟩

theorem Pif.StoreLaw.clearMark (h : s.pifP.StoreLaw ∧ s.pifD.StoreLaw) (tell : Bool) :
    (s.clearMark tell).pifP.StoreLaw ∧ (s.clearMark tell).pifD.StoreLaw := by
  unfold State.clearMark
  split
  · exact h
  · cases tell
    · exact h
    · exact Pif.StoreLaw.raise (s := { s with arb := { s.arb with mark := none } }) h _ _

theorem Pif.StoreLaw.settle (h : s.pifP.StoreLaw ∧ s.pifD.StoreLaw) (d : DriveState) :
    (s.settle d).pifP.StoreLaw ∧ (s.settle d).pifD.StoreLaw := by
  unfold State.settle
  split
  · exact h
  · exact Pif.StoreLaw.clearMark (by simpa using h) true

theorem Pif.StoreLaw.setDrive (h : s.pifP.StoreLaw ∧ s.pifD.StoreLaw) (d : DriveState) :
    (s.setDrive d).pifP.StoreLaw ∧ (s.setDrive d).pifD.StoreLaw := by
  unfold State.setDrive
  split
  · exact h
  · simp only [State.leaveDrive_frame]
    exact Pif.StoreLaw.settle (Pif.StoreLaw.raise (Pif.StoreLaw.raise
      (s := { s with dsv := { s.dsv with drive := d } }) h .portP .driveState) .portD .driveState) d

/-- What the entry to a drive state leaves of the anchor and the mark (R157). -/
theorem State.settle_anchor (s : State) (d : DriveState) :
    (s.settle d).pru.anchor = (if d.settled then s.pru.anchor else none) ∧
      (s.settle d).arb.mark = (if d.settled then s.arb.mark else none) ∧
      (s.settle d).pru.trackIndex = s.pru.trackIndex ∧ (s.settle d).pru.zones = s.pru.zones := by
  unfold State.settle
  split <;> simp

theorem State.settle_queues (s : State) (d : DriveState) :
    (s.settle d).arb = { s.arb with mark := (s.settle d).arb.mark } := by
  unfold State.settle
  split <;> simp

/-- What a change of the drive state leaves of the anchor and the mark: they stay only where the new state is settled or
the state did not change. -/
theorem State.setDrive_anchor (s : State) (d : DriveState) :
    (s.setDrive d).pru.anchor = (if d.settled ∨ d = s.dsv.drive then s.pru.anchor else none) ∧
      (s.setDrive d).arb.mark = (if d.settled ∨ d = s.dsv.drive then s.arb.mark else none) := by
  unfold State.setDrive
  split
  · next h => simp [h]
  · next h => simp [h, State.settle_anchor]

theorem State.setDrive_index (s : State) (d : DriveState) :
    (s.setDrive d).pru.trackIndex = s.pru.trackIndex ∧ (s.setDrive d).pru.zones = s.pru.zones := by
  unfold State.setDrive
  split
  · simp
  · simp [State.settle_anchor]

theorem State.setDrive_arb (s : State) (d : DriveState) :
    (s.setDrive d).arb = { s.arb with mark := (s.setDrive d).arb.mark } := by
  unfold State.setDrive
  split
  · rfl
  · simp only [State.leaveDrive_frame]
    rw [State.settle_queues]
    simp

/-- A holding jump does not outlast HOLDING (R118, R157). -/
theorem State.setDrive_hold (s : State) (d : DriveState) (h : s.mve.holdJump ≠ .none → s.dsv.drive = .holding)
    (hn : (s.setDrive d).mve.holdJump ≠ .none) : d = .holding := by
  unfold State.setDrive at hn
  split at hn
  · next he => exact he.trans (h hn)
  · rw [State.leaveDrive_mve] at hn
    split at hn
    · exact absurd rfl hn
    · next hh => exact absurd (h (by simpa using hn)) hh

/-- A change of the drive state keeps the laws where the active move is one that stands with the new state, and no
recovery activity is in flight but under RECOVERING. -/
theorem State.Core.setDrive (h : s.endMove.Core) {d : DriveState}
    (hm : ∀ m, s.mve.active = some m → d = m.kind.driveDuring ∧ (m.kind.stopsDrive = false →
      s.mve.returnState = some .tracking ∨ s.mve.returnState = some .holding))
    (ha : s.mve.activity = .none ∨ d = .recovering) : (s.setDrive d).Core where
  loops := by have := h.loops; simpa [State.LoopLaw] using this
  rest := by have := h.rest; simpa [State.RestLaw] using this
  dark := by have := h.dark; simpa [State.DarkLaw] using this
  permit := by have := h.permit; simpa [State.PermitLaw] using this
  duty := by have := h.duty; simpa using this
  work := by
    refine ⟨?_, ?_, ?_⟩
    · simpa using hm
    · intro hn
      simpa using s.setDrive_hold d h.work.2.1 hn
    · intro hn
      rcases ha with ha | ha
      · simp [ha] at hn
      · simpa using ha
  anchor := by
    have ha := s.setDrive_anchor d
    have h3 : ∀ b : Bool, (d.settled = true ∨ d = s.dsv.drive) → (b = true → s.dsv.drive.settled = true) → b = true →
        d.settled = true := fun _ hd hb ht => hd.elim id (fun he => he ▸ hb ht)
    refine ⟨fun hn => ?_, fun hn => ?_⟩ <;> simp only [State.setDrive_dsv]
    · rw [ha.1] at hn
      split at hn
      · next hd => exact h3 _ hd h.anchor.1 hn
      · simp at hn
    · rw [ha.2] at hn
      split at hn
      · next hd => exact h3 _ hd h.anchor.2 hn
      · simp at hn
  queues := by
    rw [State.setDrive_arb]
    exact h.queues
  storeP := (Pif.StoreLaw.setDrive (s := s) ⟨h.storeP, h.storeD⟩ d).1
  storeD := (Pif.StoreLaw.setDrive (s := s) ⟨h.storeP, h.storeD⟩ d).2
  record := by have := h.record; simpa [Dsv.RecordLaw] using this
  range := by
    have := h.range
    simpa [State.RangeLaw, Mve.endMove] using this
  index := by have := h.index; simpa [State.IndexLaw, State.setDrive_index] using this

end Sys2Proof.Machine
end

