-- ==== Sys2Proof/Laws/Keep.lean ====
section
/-!
SUPPORT. The ends of moves, the faults and the recovery keep a sound state (Safety.lean): one lemma per shared
operation of Machine/Supervisor.lean and Machine/Moves.lean, which says under what condition it does.
-/

namespace Sys2Proof.Machine

variable {s t : State}

/-! ### From the laws of an order to a sound state -/

/-- An order that leaves the Drive Supervisor and the supply line alone keeps a sound state if it keeps its laws. -/
theorem State.Sound.of_core (h : s.Sound) (hc : t.Core) (hd : t.dsv = s.dsv) (hr : t.rstnLow = s.rstnLow)
    (hp : t.lowvPin = s.lowvPin) : t.Sound :=
  { hc with
    laser := by have := h.laser; unfold State.LaserLaw at this ⊢; rw [hd]; exact this
    supply := by have := h.supply; unfold State.SupplyLaw at this ⊢; rw [hd, hr, hp]; exact this }

theorem State.Sound.dropAnchor (h : s.Sound) : s.dropAnchor.Sound :=
  h.of_core h.toCore.dropAnchor (by simp) (by simp) (by simp)

theorem State.Sound.clearMark (h : s.Sound) (b : Bool) : (s.clearMark b).Sound :=
  h.of_core (h.toCore.clearMark b) (by simp) (by simp) (by simp)

theorem State.Sound.setIndex (h : s.Sound) {n : Int} (lo : Config.minTrack ≤ n) (hi : n ≤ Config.maxTrack) :
    (s.setIndex n).Sound := h.of_core (h.toCore.setIndex lo hi) (by simp) (by simp) (by simp)

theorem State.Sound.moveIndex (h : s.Sound) (d : Int) : (s.moveIndex d).Sound :=
  h.of_core (h.toCore.moveIndex d) (by simp) (by simp) (by simp)

theorem State.Sound.raise (h : s.Sound) (p : Port) (n : Notice) : (s.raise p n).Sound :=
  h.of_core (h.toCore.raise p n) (by simp) (by simp) (by simp)

theorem State.Sound.raiseBoth (h : s.Sound) (n : Notice) : (s.raiseBoth n).Sound :=
  h.of_core (h.toCore.raiseBoth n) (by simp) (by simp) (by simp)

theorem State.Sound.bump (h : s.Sound) (c : CounterId) : (s.bump c).Sound :=
  h.of_core (h.toCore.bump c) (by simp) (by simp) (by simp)

theorem State.Sound.trackOpen (h : s.Sound) : s.trackOpen.Sound :=
  h.of_core h.toCore.trackOpen (by simp) (by simp) (by simp)

theorem State.Sound.focusOpen (h : s.Sound) : s.focusOpen.Sound :=
  h.of_core h.toCore.focusOpen (by simp) (by simp) (by simp)

theorem State.Sound.searchCommand (h : s.Sound) : s.searchCommand.Sound :=
  h.of_core h.toCore.searchCommand (by simp) (by simp) (by simp)

theorem State.Sound.closeCommand (h : s.Sound) : s.closeCommand.Sound :=
  h.of_core h.toCore.closeCommand (by simp) (by simp) (by simp)

theorem State.Sound.jumpCommand (h : s.Sound) (d : Dir) : (s.jumpCommand d).Sound :=
  h.of_core (h.toCore.jumpCommand d) (by simp) (by simp) (by simp)

theorem State.Sound.brakeCommand (h : s.Sound) : s.brakeCommand.Sound :=
  h.of_core h.toCore.brakeCommand (by simp) (by simp) (by simp)

theorem State.Sound.holdLoops (h : s.Sound) : s.holdLoops.Sound :=
  h.of_core h.toCore.holdLoops (by simp) (by simp) (by simp)

theorem State.Sound.releaseLoops (h : s.Sound) : s.releaseLoops.Sound :=
  h.of_core h.toCore.releaseLoops (by simp) (by simp) (by simp)

theorem State.Sound.setGains (h : s.Sound) (g : GainSet) : (s.setGains g).Sound :=
  h.of_core (h.toCore.setGains g) (by simp) (by simp) (by simp)

theorem State.Sound.accelerateOrder (h : s.Sound) : s.accelerateOrder.Sound :=
  h.of_core h.toCore.accelerateOrder (by simp) (by simp) (by simp)

theorem State.Sound.brakeOrder (h : s.Sound) : s.brakeOrder.Sound :=
  h.of_core h.toCore.brakeOrder (by simp) (by simp) (by simp)

theorem State.Sound.homingComplete (h : s.Sound) : s.homingComplete.Sound :=
  h.of_core h.toCore.homingComplete (by simp) (by simp) (by simp)

theorem State.Sound.homingOrder (h : s.Sound) : s.homingOrder.Sound :=
  h.of_core h.toCore.homingOrder (by simp) (by simp) (by simp)

theorem State.Sound.seekDriveOrder (h : s.Sound) (d : Dir) : (s.seekDriveOrder d).Sound :=
  h.of_core (h.toCore.seekDriveOrder d) (by simp) (by simp) (by simp)

theorem State.Sound.sledStop (h : s.Sound) : s.sledStop.Sound :=
  h.of_core h.toCore.sledStop (by simp) (by simp) (by simp)

theorem State.Sound.endHoldJump (h : s.Sound) : s.endHoldJump.Sound :=
  h.of_core h.toCore.endHoldJump (by simp) (by simp) (by simp)

theorem State.Sound.endMove (h : s.Sound) : s.endMove.Sound :=
  h.of_core h.toCore.endMove (by simp) (by simp) (by simp)

theorem State.Sound.endWork (h : s.Sound) : s.endWork.Sound :=
  h.of_core h.toCore.endWork (by simp) (by simp) (by simp)

theorem State.Sound.storeResult (h : s.Sound) (r : Result) : (s.storeResult r).Sound :=
  h.of_core (h.toCore.storeResult r) (by simp) (by simp) (by simp)

theorem State.Sound.setQueue (h : s.Sound) (p : Port) {q : List Entry} (hq : q.length ≤ Config.queueDepth) :
    (s.setQueue p q).Sound := h.of_core (h.toCore.setQueue p hq) (by simp) (by simp) (by simp)

theorem State.Sound.arbComplete (h : s.Sound) (o : Option MoveOutcome) (c : Bool) : (s.arbComplete o c).Sound :=
  h.of_core (h.toCore.arbComplete o c) (by simp) (by simp) (by simp)

theorem State.Sound.finishMove (h : s.Sound) (m : Option ActiveMove) (o : MoveOutcome) (v : Option Nat) :
    (s.finishMove m o v).Sound := h.of_core (h.toCore.finishMove m o v) (by simp) (by simp) (by simp)

/-- A part of the Move Engine that carries no law: the phase, the counts, the timers and the tries. -/
theorem State.Sound.mve (h : s.Sound) {v : Mve} (ha : v.active = s.mve.active)
    (hr : v.returnState = s.mve.returnState) (hj : v.holdJump = s.mve.holdJump) (hy : v.activity = s.mve.activity)
    (hm : v.measured = s.mve.measured) : ({ s with mve := v } : State).Sound :=
  h.of_core
    { h.toCore with
      work := by
        have := h.work
        unfold State.WorkLaw at this ⊢
        simpa only [ha, hr, hj, hy] using this
      range := by
        have := h.range
        unfold State.RangeLaw at this ⊢
        simpa only [hm] using this }
    rfl rfl rfl

/-- Where LOWV is asserted the drive is POWER_HOLD (R167). -/
theorem State.Sound.unpowered (h : s.Sound) (hn : s.dsv.drive ≠ .powerHold) : s.dsv.lowv = false := by
  cases hl : s.dsv.lowv
  · rfl
  · exact absurd (h.supply.2 hl) hn

/-- A laser that is on means a drive state of 8.1 with the laser on. -/
theorem State.Sound.unlit (h : s.Sound) (hn : s.dsv.drive.lit = false) : s.dsv.laser = false := by
  cases hl : s.dsv.laser
  · rfl
  · exact absurd ((h.laser hl).2.2) (by simp [hn])

/-- A change of the drive state keeps a sound state where the work in flight stands with the new state, LOWV is
deasserted or the new state POWER_HOLD, and the laser is off or the new state lit. -/
theorem State.Sound.setDrive (h : s.endMove.Sound) {d : DriveState}
    (hm : ∀ m, s.mve.active = some m → d = m.kind.driveDuring ∧ (m.kind.stopsDrive = false →
      s.mve.returnState = some .tracking ∨ s.mve.returnState = some .holding))
    (ha : s.mve.activity = .none ∨ d = .recovering) (hl : s.dsv.lowv = false ∨ d = .powerHold)
    (hi : s.dsv.laser = false ∨ d.lit = true) : (s.setDrive d).Sound :=
  { State.Core.setDrive h.toCore hm ha with
    laser := by
      intro hon
      simp only [State.setDrive_dsv] at hon ⊢
      have := h.laser hon
      exact ⟨this.1, this.2.1, hi.elim (fun hf => by simp [hf] at hon) id⟩
    supply := by
      have := h.supply
      unfold State.SupplyLaw at this ⊢
      simp only [State.setDrive_dsv, State.setDrive_frame]
      exact ⟨this.1, fun hon => hl.elim (fun hf => by simp [hf] at hon) id⟩ }

/-- A change of the drive state with no work in flight. -/
theorem State.Sound.setDrive_free (h : s.Sound) {d : DriveState} (hm : s.mve.active = none)
    (ha : s.mve.activity = .none ∨ d = .recovering) (hl : s.dsv.lowv = false ∨ d = .powerHold)
    (hi : s.dsv.laser = false ∨ d.lit = true) : (s.setDrive d).Sound :=
  h.endMove.setDrive (fun m hs => by simp [hm] at hs) ha hl hi

theorem State.Sound.laserOff (h : s.Sound) (hf : s.focus.state = .opened) : s.laserOff.Sound :=
  { h.toCore.laserOff hf with
    laser := fun hon => by simp at hon
    supply := h.supply }

theorem State.Sound.noRecovery (h : s.Sound) : s.noRecovery.Sound :=
  { h.toCore.noRecovery with laser := h.laser, supply := h.supply }

theorem State.Sound.latchFault (h : s.Sound) (k : FaultKind) : (s.latchFault k).Sound :=
  { h.toCore.latchFault k with
    laser := by have := h.laser; simpa [State.LaserLaw] using this
    supply := by have := h.supply; simpa [State.SupplyLaw] using this }

end Sys2Proof.Machine
end

