-- ==== Sys2Proof/Laws/Moves.lean ====
section
/-!
SUPPORT. Faults, recovery, and every phase and report of the Move Engine keep a sound state (Safety.lean): one lemma per
operation of Machine/Supervisor.lean and Machine/Moves.lean.
-/

namespace Sys2Proof.Machine

variable {s t : State}

/-! ### Faults and recovery -/

/-- The loops opened and the laser off keep the laws, whatever the laser did before. -/
theorem State.Sound.darken (h : s.Sound) : s.focusOpen.laserOff.Sound := h.focusOpen.laserOff (by simp [FocusLoop.emptied])

theorem State.Sound.faultStop (h : s.Sound) (hd : s.dsv.drive ≠ .powerHold) : s.faultStop.Sound := by
  have hu := h.unpowered hd
  unfold State.faultStop
  refine State.Sound.finishMove ?_ _ _ _
  exact h.darken.sledStop.brakeOrder.endWork.noRecovery.setDrive_free (by simp [Mve.endMove]) (by simp) (by simp [hu])
    (by simp)

theorem State.Sound.fault (h : s.Sound) (k : FaultKind) : (s.fault k).Sound := by
  unfold State.fault
  dsimp only
  split
  · exact h.latchFault k
  · next hd => exact (h.latchFault k).faultStop (by simp at hd ⊢; exact hd.2)

/-- The activity ended and the recovery kind NONE. -/
theorem State.Sound.idleActivity (h : s.Sound) : ({ s with mve := { s.mve with activity := .none } } : State).Sound :=
  h.of_core { h.toCore with work := ⟨h.work.1, h.work.2.1, fun hn => absurd rfl hn⟩, range := h.range } rfl rfl rfl

theorem State.Sound.recoveryFailed (h : s.Sound) (k : FaultKind) : (s.recoveryFailed k).Sound :=
  h.idleActivity.noRecovery.fault k

/-- An activity started while the drive recovers. -/
theorem State.Sound.activity (h : s.Sound) (hd : s.dsv.drive = .recovering) {v : Mve}
    (ha : v.active = s.mve.active) (hr : v.returnState = s.mve.returnState) (hj : v.holdJump = s.mve.holdJump)
    (hm : v.measured = s.mve.measured) : ({ s with mve := v } : State).Sound :=
  h.of_core
    { h.toCore with
      work := by
        have := h.work
        unfold State.WorkLaw at this ⊢
        simp only [ha, hr, hj]
        exact ⟨this.1, this.2.1, fun _ => hd⟩
      range := by
        have := h.range
        unfold State.RangeLaw at this ⊢
        simpa only [hm] using this }
    rfl rfl rfl

theorem State.Sound.recoveryClose (h : s.Sound) (hd : s.dsv.drive = .recovering) : s.recoveryClose.Sound := by
  unfold State.recoveryClose
  dsimp only
  split
  · refine State.Sound.closeCommand ?_
    exact h.activity hd rfl rfl rfl rfl
  · refine State.Sound.recoveryFailed ?_ _
    exact h.activity hd rfl rfl rfl rfl

theorem State.Sound.recoverySearch (h : s.Sound) (hd : s.dsv.drive = .recovering) : s.recoverySearch.Sound := by
  unfold State.recoverySearch
  dsimp only
  split
  · refine State.Sound.searchCommand ?_
    exact h.activity hd rfl rfl rfl rfl
  · refine State.Sound.recoveryFailed ?_ _
    exact h.activity hd rfl rfl rfl rfl

/-- The recovery kind carries no law. -/
theorem State.Sound.recovery (h : s.Sound) (r : Recovery) :
    ({ s with dsv := { s.dsv with recovery := r } } : State).Sound :=
  { h with }

theorem State.Sound.startRecovery (h : s.Sound) (hd : s.dsv.drive.recovers = true) (b : Bool) :
    (s.startRecovery b).Sound := by
  have hp : s.dsv.drive ≠ .powerHold := by intro hn; simp [hn, DriveState.recovers] at hd
  have hu := h.unpowered hp
  have ht := h.endWork.sledStop.setDrive_free (d := .recovering) (by simp [Mve.endMove]) (by simp) (by simp [hu])
    (Or.inr rfl)
  unfold State.startRecovery
  dsimp only
  refine State.Sound.finishMove ?_ _ _ _
  split
  · exact State.Sound.recoverySearch (ht.recovery _) (by simp)
  · exact State.Sound.recoveryClose (ht.recovery _) (by simp)

theorem State.Sound.trackingLost (h : s.Sound) : s.trackingLost.Sound := by
  unfold State.trackingLost
  split
  · next hd => exact h.startRecovery hd _
  · exact h

theorem State.Sound.focusLost (h : s.Sound) : s.focusLost.Sound := by
  unfold State.focusLost
  split
  · next hd => exact h.startRecovery hd _
  · split
    · next hd => exact State.Sound.recoverySearch (h.idleActivity.recovery _) hd.1
    · exact h

theorem State.Sound.recovered (h : s.Sound) (hd : s.dsv.drive = .recovering) : s.recovered.Sound := by
  have hu := h.unpowered (by simp [hd])
  have hm : s.mve.active = none := by
    rcases hm : s.mve.active with _ | m
    · rfl
    · have := (h.work.1 m hm).1
      rw [hd] at this
      cases hk : m.kind <;> simp [hk, MoveKind.driveDuring] at this
  exact h.idleActivity.noRecovery.setDrive_free (by simpa using hm) (by simp) (by simp [hu]) (Or.inr rfl)

/-! ### The end of a move -/

/-- While a move is active no holding jump and no recovery activity is in flight, and LOWV is deasserted. -/
theorem State.Sound.busy (h : s.Sound) {m : ActiveMove} (hm : s.mve.active = some m) :
    s.mve.holdJump = .none ∧ s.mve.activity = .none ∧ s.dsv.lowv = false ∧ s.dsv.drive = m.kind.driveDuring := by
  have hd := (h.work.1 m hm).1
  refine ⟨?_, ?_, h.unpowered ?_, hd⟩
  · by_contra hn
    have := h.work.2.1 hn
    rw [hd] at this
    cases hk : m.kind <;> simp [hk, MoveKind.driveDuring] at this
  · by_contra hn
    have := h.work.2.2 hn
    rw [hd] at this
    cases hk : m.kind <;> simp [hk, MoveKind.driveDuring] at this
  · rw [hd]
    cases m.kind <;> decide

/-- The ended move's last effects, where the state without the move is sound and the new drive state fits it. -/
theorem State.Sound.completeMove_of (h : s.endMove.Sound) (ha : s.mve.activity = .none) (hl : s.dsv.lowv = false)
    (hi : ∀ m d, s.mve.active = some m → m.kind.driveAfter s.mve.returnState = some d →
      s.dsv.laser = false ∨ d.lit = true) (o : MoveOutcome) (v : Option Nat) : (s.completeMove o v).Sound := by
  have hend : s.mve.active = none → s.Sound := fun hm =>
    h.of_core
      { h.toCore with
        work := ⟨fun m hs => by simp [hm] at hs, h.work.2.1, h.work.2.2⟩
        range := h.range }
      rfl rfl rfl
  unfold State.completeMove
  split
  · next hm => exact hend hm
  · next m hm =>
    dsimp only
    refine State.Sound.finishMove ?_ _ _ _
    split
    · next d hd =>
      exact h.setDrive_free (by simp [Mve.endMove]) (Or.inl (by simpa [Mve.endMove] using ha))
        (Or.inl (by simpa using hl)) (by simpa using hi m d hm hd)
    · exact h

theorem State.Sound.completeMove (h : s.Sound) (o : MoveOutcome) (v : Option Nat) : (s.completeMove o v).Sound := by
  rcases hm : s.mve.active with _ | m
  · simpa [State.completeMove, hm] using h
  · have hb := h.busy hm
    refine h.endMove.completeMove_of hb.2.1 hb.2.2.1 ?_ o v
    intro m' d hm' hd
    obtain rfl : m' = m := by rw [hm] at hm'; exact (Option.some.inj hm').symm
    have hret := (h.work.1 m' hm).2
    cases hk : m'.kind <;> simp only [hk, MoveKind.driveAfter, Option.some.injEq, MoveKind.stopsDrive,
      forall_const] at hd hret
    all_goals first
      | (subst hd; exact Or.inr rfl)
      | (left; exact h.unlit (by rw [hb.2.2.2, hk]; rfl))
      | (right; rcases hret with hr | hr <;> rw [hr] at hd <;> cases hd <;> rfl)

theorem State.Sound.completeAtGrant (h : s.endMove.Sound) (o : MoveOutcome) : (s.completeAtGrant o).Sound :=
  h.finishMove _ _ _

/-! ### Close, jump and coarse phases -/

theorem State.Sound.failClosePhase (h : s.Sound) : s.failClosePhase.Sound := by
  unfold State.failClosePhase
  split
  · exact h
  · split
    · exact h.fault _
    · exact h.trackingLost

theorem State.Sound.startClosePhase (h : s.Sound) : s.startClosePhase.Sound := by
  unfold State.startClosePhase
  dsimp only
  split
  · refine State.Sound.closeCommand ?_
    exact h.mve rfl rfl rfl rfl rfl
  · refine State.Sound.failClosePhase ?_
    exact h.mve rfl rfl rfl rfl rfl

theorem State.Sound.startJumpPhase (h : s.Sound) (n : Nat) (d : Dir) : (s.startJumpPhase n d).Sound := by
  unfold State.startJumpPhase
  dsimp only
  split
  · refine State.Sound.jumpCommand ?_ d
    exact h.mve rfl rfl rfl rfl rfl
  · refine State.Sound.failClosePhase ?_
    exact h.mve rfl rfl rfl rfl rfl

theorem State.Sound.startCoarse (h : s.Sound) (d : Int) : (s.startCoarse d).Sound := by
  unfold State.startCoarse
  refine State.Sound.seekDriveOrder (State.Sound.trackOpen ?_) _
  exact h.mve rfl rfl rfl rfl rfl

theorem State.Sound.moveBy (h : s.Sound) (d : Int) : (s.moveBy d).Sound := by
  unfold State.moveBy
  split
  · exact h.startJumpPhase _ _
  · exact h.startCoarse _

/-! ### Seek by block -/

theorem State.Sound.seekMove (h : s.Sound) (d : Int) : (s.seekMove d).Sound := by
  unfold State.seekMove
  split
  · exact h.startClosePhase
  · exact h.moveBy _

theorem State.Sound.aimAt (h : s.Sound) (b : Nat) : (s.aimAt b).Sound := h.mve rfl rfl rfl rfl rfl

theorem State.Sound.startSeek (h : s.Sound) (b : Nat) : (s.startSeek b).Sound := (h.aimAt b).seekMove _

theorem State.Sound.startAddressWait (h : s.Sound) : s.startAddressWait.Sound := h.mve rfl rfl rfl rfl rfl

theorem State.Sound.correctWith (h : s.Sound) (miss : MoveOutcome) {go : State → State}
    (hg : ∀ u : State, u.Sound → (go u).Sound) : (s.correctWith miss go).Sound := by
  unfold State.correctWith
  dsimp only
  split
  · refine State.Sound.completeMove (State.Sound.bump ?_ _) _ _
    exact h.mve rfl rfl rfl rfl rfl
  · split
    · refine hg _ (State.Sound.aimAt (State.Sound.bump ?_ _) _)
      exact h.mve rfl rfl rfl rfl rfl
    · refine State.Sound.completeMove ?_ _ _
      exact h.mve rfl rfl rfl rfl rfl

theorem State.Sound.correctOnReport (h : s.Sound) (r : Nat) : (s.correctOnReport r).Sound :=
  h.correctWith _ (fun _ hu => hu.seekMove _)

theorem State.Sound.correctOnExpiry (h : s.Sound) : s.correctOnExpiry.Sound :=
  h.correctWith _ (fun u hu => by
    dsimp only
    split
    · exact hu.startAddressWait
    · exact hu.moveBy _)

theorem State.Sound.seekReport (h : s.Sound) (g : Bool) (r : Nat) : (s.seekReport g r).Sound := by
  unfold State.seekReport
  split
  · split
    · exact h.completeMove _ _
    · exact h.correctOnReport _
  · exact h

/-! ### START, STOP and PARK -/

theorem State.Sound.startSearch (h : s.Sound) : s.startSearch.Sound := by
  unfold State.startSearch
  dsimp only
  split
  · refine State.Sound.searchCommand ?_
    exact h.mve rfl rfl rfl rfl rfl
  · refine State.Sound.fault ?_ _
    exact h.mve rfl rfl rfl rfl rfl

theorem State.Sound.onSledHomed (h : s.Sound) : s.onSledHomed.Sound := by
  unfold State.onSledHomed
  split
  · split
    · exact h.startSearch
    · exact h.completeMove _ _
    · exact h
  · exact h

theorem State.Sound.startHoming (h : s.Sound) : s.startHoming.Sound := by
  unfold State.startHoming
  dsimp only
  split
  · refine State.Sound.onSledHomed (State.Sound.homingOrder ?_)
    exact h.mve rfl rfl rfl rfl rfl
  · refine State.Sound.homingOrder ?_
    exact h.mve rfl rfl rfl rfl rfl

theorem State.Sound.onSledStuck (h : s.Sound) : s.onSledStuck.Sound := by
  unfold State.onSledStuck
  split
  · exact h.fault _
  · exact h

theorem State.Sound.onSpindleLocked (h : s.Sound) : s.onSpindleLocked.Sound := by
  unfold State.onSpindleLocked
  split
  · exact h.startClosePhase
  · exact h

theorem State.Sound.startSpinUp (h : s.Sound) : s.startSpinUp.Sound := by
  unfold State.startSpinUp
  dsimp only
  split
  · split
    · refine State.Sound.onSpindleLocked ?_
      exact h.mve rfl rfl rfl rfl rfl
    · refine State.Sound.accelerateOrder ?_
      exact h.mve rfl rfl rfl rfl rfl
  · refine State.Sound.fault ?_ _
    exact h.mve rfl rfl rfl rfl rfl

theorem State.Sound.onSpindleStopped (h : s.Sound) : s.onSpindleStopped.Sound := by
  unfold State.onSpindleStopped
  split
  · split
    · exact h.completeMove _ _
    · exact h.startHoming
    · exact h
  · exact h

/-- The orders of STOP and PARK turn the laser off, so that they need no law about it beforehand. -/
theorem State.Sound.startSpinDown (h : s.Core) (hs : s.SupplyLaw) : s.startSpinDown.Sound := by
  have ht : s.focusOpen.laserOff.Sound :=
    { State.Core.laserOff h.focusOpen (by simp [FocusLoop.emptied]) with
      laser := fun hon => by simp at hon
      supply := by unfold State.SupplyLaw at hs ⊢; simpa using hs }
  unfold State.startSpinDown
  dsimp only
  split
  · refine State.Sound.onSpindleStopped ?_
    exact ht.sledStop.brakeOrder.mve rfl rfl rfl rfl rfl
  · exact ht.sledStop.brakeOrder.mve rfl rfl rfl rfl rfl

/-! ### Reports of the Loop Processor -/

theorem State.Sound.onPulledIn (h : s.Sound) : s.onPulledIn.Sound := by
  unfold State.onPulledIn
  split
  · exact h.startSpinUp
  · split
    · next ha => exact h.recoveryClose (h.work.2.2 (by rw [ha]; decide))
    · exact h

theorem State.Sound.onSearchFailed (h : s.Sound) : s.onSearchFailed.Sound := by
  unfold State.onSearchFailed
  split
  · exact h.fault _
  · split
    · exact h.recoveryFailed _
    · exact h

theorem measuredBalance_range (e f : Nat) : 128 ≤ measuredBalance e f ∧ measuredBalance e f ≤ 383 := by
  unfold measuredBalance
  split
  · omega
  · have := clampI_range (lo := 128) (hi := 383) (by decide) (roundUp (256 * e) f : Nat)
    omega

end Sys2Proof.Machine
end

