-- ==== Sys2Proof/Laws/Grants.lean ====
section
/-!
SUPPORT. The reports of a close, the standing hold, the grant and the Pickup Arbiter keep a sound state (Safety.lean):
one lemma per operation of the last parts of Machine/Moves.lean and of Machine/Arbiter.lean.
-/

namespace Sys2Proof.Machine

variable {s t : State}

/-! ### Parameters -/

/-- A parameter read after a write: the written one reads the value, and every other one as before. -/
theorem Params.get_set (m : Params) (q r : ParamId) (v : Int) (hv : q.signed = false → 0 ≤ v) :
    (m.set q v).get r = if r = q then v else m.get r := by
  split
  · next h =>
    subst h
    cases r <;> first
      | rfl
      | exact Int.toNat_of_nonneg (hv rfl)
  · next h => cases q <;> cases r <;> first | rfl | exact absurd rfl h

theorem ParamId.lo_nonneg (q : ParamId) (h : q.signed = false) : 0 ≤ q.lo := by
  simpa [ParamId.signed] using h

/-- A write inside the parameter's range keeps the ranges; SF takes 1, 2 and 4 alone (R191, R194). -/
theorem Params.InRange.set {m : Params} (h : m.InRange) {q : ParamId} {v : Int} (lo : q.lo ≤ v) (hi : v ≤ q.hi)
    (hs : q = .sf → v = 1 ∨ v = 2 ∨ v = 4) : (m.set q v).InRange := by
  have hv : q.signed = false → 0 ≤ v := fun hq => (q.lo_nonneg hq).trans lo
  refine ⟨fun r => ?_, ?_⟩
  · rw [m.get_set q r v hv]
    split
    · next hr => subst hr; exact ⟨lo, hi⟩
    · exact h.1 r
  · have hg := m.get_set q .sf v hv
    have hsf : (m.set q v).get .sf = ((m.set q v).sf : Int) := rfl
    rw [hsf] at hg
    split at hg
    · next hq => have := hs hq.symm; omega
    · have : m.get .sf = (m.sf : Int) := rfl
      have := h.2
      omega

/-- A parameter other than SF and KCLV written in its range. -/
theorem State.Sound.setParams (h : s.Sound) {q : ParamId} {v : Int} (lo : q.lo ≤ v) (hi : v ≤ q.hi)
    (h1 : q ≠ .sf) (h2 : q ≠ .kclv) : ({ s with prm := s.prm.set q v } : State).Sound :=
  h.of_core
    { h.toCore with
      range := ⟨h.range.1.set lo hi (fun hq => absurd hq h1), h.range.2⟩
      index := by
        have := h.index
        unfold State.IndexLaw at this ⊢
        have e1 : (s.prm.set q v).sf = s.prm.sf := by cases q <;> first | rfl | exact absurd rfl h1
        have e2 : (s.prm.set q v).kclv = s.prm.kclv := by cases q <;> first | rfl | exact absurd rfl h2
        simpa only [e1, e2] using this }
    rfl rfl rfl

/-! ### Closes -/

theorem State.Sound.closePhaseDone (h : s.Sound) : s.closePhaseDone.Sound := by
  unfold State.closePhaseDone
  split
  · exact h
  · split
    · exact h.completeMove _ _
    · exact h.completeMove _ _
    · exact h.completeMove _ _
    · exact h.completeMove _ _
    · exact h.startAddressWait
    · exact h.startAddressWait
    · split
      · next hv =>
        have hr := h.range.2.2.2.2.2 _ hv
        refine State.Sound.completeMove ?_ _ _
        exact h.setParams (by simp only [ParamId.lo]; omega) (by simp only [ParamId.hi]; omega) (by decide) (by decide)
      · exact h.completeMove _ _
    · exact h
    · exact h
    · exact h

theorem State.Sound.onTrackingClosed (h : s.Sound) : s.onTrackingClosed.Sound := by
  unfold State.onTrackingClosed
  split
  · exact h.mve rfl rfl rfl rfl rfl
  · split
    · exact h.closePhaseDone
    · split
      · exact h.endHoldJump
      · split
        · next ha => exact h.recovered (h.work.2.2 (by rw [ha]; decide))
        · exact h

theorem State.Sound.failHoldJump (h : s.Sound) : s.failHoldJump.Sound := h.endHoldJump.trackingLost

theorem State.Sound.failSettling (h : s.Sound) : s.failSettling.Sound := by
  unfold State.failSettling
  refine State.Sound.trackingLost ?_
  exact h.mve rfl rfl rfl rfl rfl

theorem State.Sound.onCloseFailed (h : s.Sound) : s.onCloseFailed.Sound := by
  unfold State.onCloseFailed
  split
  · split
    · refine State.Sound.closeCommand ?_
      exact h.mve rfl rfl rfl rfl rfl
    · exact h.failSettling
  · split
    · split
      · refine State.Sound.closeCommand ?_
        exact h.mve rfl rfl rfl rfl rfl
      · exact h.failClosePhase
    · split
      · split
        · refine State.Sound.closeCommand ?_
          exact h.mve rfl rfl rfl rfl rfl
        · exact h.failHoldJump
      · split
        · split
          · refine State.Sound.closeCommand ?_
            exact h.mve rfl rfl rfl rfl rfl
          · exact h.recoveryFailed _
        · exact h

/-! ### The standing hold -/

/-- A holding jump set to a state while the drive holds. -/
theorem State.Sound.holdJump (h : s.Sound) (hd : s.dsv.drive = .holding) {v : Mve} (ha : v.active = s.mve.active)
    (hr : v.returnState = s.mve.returnState) (hy : v.activity = s.mve.activity) (hm : v.measured = s.mve.measured) :
    ({ s with mve := v } : State).Sound :=
  h.of_core
    { h.toCore with
      work := by
        have := h.work
        unfold State.WorkLaw at this ⊢
        simp only [ha, hr, hy]
        exact ⟨this.1, fun _ => hd, this.2.2⟩
      range := by
        have := h.range
        unfold State.RangeLaw at this ⊢
        simpa only [hm] using this }
    rfl rfl rfl

theorem State.Sound.startHoldJump (h : s.Sound) (hd : s.dsv.drive = .holding) : s.startHoldJump.Sound := by
  unfold State.startHoldJump
  dsimp only
  split
  · refine State.Sound.jumpCommand ?_ _
    exact h.holdJump hd rfl rfl rfl rfl
  · refine State.Sound.failHoldJump ?_
    exact h.holdJump hd rfl rfl rfl rfl

theorem State.Sound.closeHoldJump (h : s.Sound) (hd : s.dsv.drive = .holding) : s.closeHoldJump.Sound := by
  unfold State.closeHoldJump
  dsimp only
  split
  · refine State.Sound.closeCommand ?_
    exact h.holdJump hd rfl rfl rfl rfl
  · refine State.Sound.failHoldJump ?_
    exact h.holdJump hd rfl rfl rfl rfl

/-! ### Crossings and revolutions -/

theorem State.Sound.mveCrossing (h : s.Sound) : s.mveCrossing.Sound := by
  unfold State.mveCrossing
  dsimp only
  split
  · split
    · refine State.Sound.startClosePhase ?_
      exact h.mve rfl rfl rfl rfl rfl
    · split
      · refine State.Sound.brakeCommand ?_
        exact h.mve rfl rfl rfl rfl rfl
      · exact h.mve rfl rfl rfl rfl rfl
  · split
    · refine State.Sound.startJumpPhase (State.Sound.sledStop ?_) _ _
      exact h.mve rfl rfl rfl rfl rfl
    · exact h.mve rfl rfl rfl rfl rfl
  · split
    · next hj => exact h.closeHoldJump (h.work.2.1 (by rw [hj]; decide))
    · exact h

theorem State.Sound.measureRevolution (h : s.Sound) : s.measureRevolution.Sound := by
  unfold State.measureRevolution
  dsimp only
  split
  · refine State.Sound.startClosePhase ?_
    exact h.of_core
      { h.toCore with
        work := h.work
        range :=
          ⟨h.range.1, h.range.2.1, h.range.2.2.1, h.range.2.2.2.1, h.range.2.2.2.2.1, fun v hv => by
            simp only [Option.some.injEq] at hv
            subst hv
            exact measuredBalance_range _ _⟩ }
      rfl rfl rfl
  · exact h.mve rfl rfl rfl rfl rfl

theorem State.Sound.mveRevolution (h : s.Sound) : s.mveRevolution.Sound := by
  unfold State.mveRevolution
  split
  · split
    · split
      · exact h.startJumpPhase _ _
      · exact h
    · exact h.mve rfl rfl rfl rfl rfl
  · exact h.measureRevolution
  · exact h
  · split
    · next hd => exact h.startHoldJump hd.1
    · exact h

theorem State.Sound.balanceSample (h : s.Sound) : s.balanceSample.Sound := by
  unfold State.balanceSample
  split
  · exact h.mve rfl rfl rfl rfl rfl
  · exact h

/-! ### The grant -/

theorem State.kindCheck_playOn (s : State) (m : ActiveMove) (k : Option Nat) : s.kindCheck m k ≠ .playOn := by
  unfold State.kindCheck
  split
  · split <;> simp
  · split <;> simp
  · split
    · simp
    · split <;> simp
  · simp

/-- PLAY alone goes on from HOLDING (R104, R115). -/
theorem State.readiness_playOn {m : ActiveMove} {k : Option Nat} (h : s.readiness m k = .playOn) :
    s.dsv.drive = .holding ∧ m.kind = .play := by
  have hk := s.kindCheck_playOn m k
  unfold State.readiness at h
  split at h
  · split at h <;> cases h
  · split at h <;> cases h
  · split at h <;> cases h
  · split at h
    · cases h
    · cases h
    · exact absurd h hk
  · next hd =>
    split at h
    · cases h
    · cases h
    · next hp => exact ⟨hd, hp⟩
    · exact absurd h hk
  · cases h

/-- A move that goes on has found IDLE, TRACKING or HOLDING, and IDLE for START and PARK alone (R104). -/
theorem State.readiness_go {m : ActiveMove} {k : Option Nat} (h : s.readiness m k = .go) :
    s.dsv.drive = .tracking ∧ m.kind ≠ .start ∨ s.dsv.drive = .holding ∧ m.kind ≠ .start ∨
      s.dsv.drive = .idle ∧ (m.kind = .start ∨ m.kind = .park) := by
  unfold State.readiness at h
  split at h
  · split at h <;> cases h
  · split at h <;> cases h
  · next hd =>
    split at h
    · cases h
    · next hk => exact Or.inr (Or.inr ⟨hd, Or.inl hk⟩)
    · next hk => exact Or.inr (Or.inr ⟨hd, Or.inr hk⟩)
    · cases h
  · next hd =>
    split at h
    · cases h
    · cases h
    · next h1 _ => exact Or.inl ⟨hd, h1⟩
  · next hd =>
    split at h
    · cases h
    · cases h
    · cases h
    · next h1 _ _ => exact Or.inr (Or.inl ⟨hd, h1⟩)
  · cases h

theorem State.Sound.laserOn (h : s.Sound) (hd : s.dsv.drive.lit = true) : s.laserOn.Sound := by
  refine { h.toCore.laserOn with laser := ?_, supply := ?_ }
  · intro _
    have hn : s.laserOn.dsv.laser = true := by assumption
    simp only [State.laserOn_dsv] at hn ⊢
    split at hn <;> rename_i hc
    · simp only [hc, if_true]
      simp only [Bool.and_eq_true, decide_eq_true_eq, Bool.not_eq_true'] at hc
      exact ⟨hc.1, hc.2, hd⟩
    · simp only [hc]
      exact h.laser hn
  · have := h.supply
    unfold State.SupplyLaw at this ⊢
    simp only [State.laserOn_dsv, State.laserOn_frame]
    split <;> exact this

/-- The first orders of every move but STOP and PARK. -/
theorem State.Sound.firstPhase (h : s.Sound) {m : ActiveMove} (hd : s.dsv.drive = m.kind.driveDuring)
    (hk : m.kind ≠ .stop ∧ m.kind ≠ .park) (k : Option Nat) : (s.firstPhase m k).Sound := by
  unfold State.firstPhase
  split
  · next hs =>
    have hl : s.dsv.drive.lit = true := by rw [hd, hs]; rfl
    split
    · exact (h.laserOn hl).startSearch
    · exact (h.laserOn hl).startHoming
  · next hs => exact absurd hs hk.1
  · next hs => exact absurd hs hk.2
  · exact h
  · exact h.mve rfl rfl rfl rfl rfl
  · split
    · exact h.completeMove _ _
    · exact h.moveBy _
  · split
    · exact h.completeMove _ _
    · exact h.moveBy _
  · exact h.startSeek _
  · exact h.startSeek _
  · refine State.Sound.trackOpen ?_
    exact h.mve rfl rfl rfl rfl rfl

/-- A grant to a free pickup keeps a sound state (R103 to R105). -/
theorem State.Sound.beginMove (h : s.Sound) (ha : s.mve.activity = .none) (m : ActiveMove) (k : Option Nat) :
    (s.beginMove m k).Sound := by
  have base : ∀ v : Mve, v.active = none → v.holdJump = s.mve.holdJump → v.activity = s.mve.activity →
      v.measured = none → ({ s with mve := v } : State).Sound := fun v h1 h2 h3 h4 =>
    h.of_core
      { h.toCore with
        work := by
          have := h.work
          unfold State.WorkLaw at this ⊢
          simp only [h1, h2, h3]
          exact ⟨fun m hn => by simp at hn, this.2.1, this.2.2⟩
        range := by
          have := h.range
          unfold State.RangeLaw at this ⊢
          simp only [h4]
          exact ⟨this.1, this.2.1, this.2.2.1, this.2.2.2.1, this.2.2.2.2.1, fun v hn => by simp at hn⟩ }
      rfl rfl rfl
  unfold State.beginMove
  dsimp only
  split
  · refine State.Sound.completeAtGrant ?_ _
    exact base _ rfl rfl rfl rfl
  · next hr =>
    have hr := State.readiness_playOn hr
    refine State.Sound.completeMove_of ?_ ?_ ?_ ?_ _ _
    · exact base _ rfl rfl rfl rfl
    · exact ha
    · exact h.unpowered (by rw [hr.1]; decide)
    intro m' d hm' hd
    obtain rfl : m = m' := by simpa using hm'
    rw [hr.2] at hd
    cases hd
    exact Or.inr rfl
  · next hr =>
    have hr := State.readiness_go hr
    have hp : s.dsv.drive ≠ .powerHold := by
      rcases hr with hr | hr | hr <;> (have := hr.1; simp_all)
    have hu := h.unpowered hp
    set u : State := { s with mve := { s.mve with
      active := some m, elapsed := 0, corrections := 0, crossings := 0, closeTries := 0, timedOut := false,
      measured := none, returnState := some s.dsv.drive } } with hud
    have hend : u.endMove.Sound := base _ rfl rfl rfl rfl
    have hwork : ∀ m', u.mve.active = some m' → m.kind.driveDuring = m'.kind.driveDuring ∧
        (m'.kind.stopsDrive = false → u.mve.returnState = some .tracking ∨ u.mve.returnState = some .holding) := by
      intro m' hm'
      obtain rfl : m = m' := by simpa [hud] using hm'
      refine ⟨rfl, fun hs => ?_⟩
      rcases hr with hr | hr | hr
      · exact Or.inl (congrArg some hr.1)
      · exact Or.inr (congrArg some hr.1)
      · rcases hr.2 with hk | hk <;> simp [hk, MoveKind.stopsDrive] at hs
    have hcore : (u.setDrive m.kind.driveDuring).Core := State.Core.setDrive hend.toCore hwork (Or.inl ha)
    have hsup : (u.setDrive m.kind.driveDuring).SupplyLaw := by
      have := h.supply
      unfold State.SupplyLaw at this ⊢
      simp only [State.setDrive_dsv, State.setDrive_frame]
      exact ⟨this.1, fun hon => absurd (hon.symm.trans hu) (by decide)⟩
    by_cases hk : m.kind ≠ .stop ∧ m.kind ≠ .park
    · refine State.Sound.firstPhase ?_ (by simp) hk _
      refine State.Sound.setDrive hend hwork (Or.inl ha) (Or.inl hu) ?_
      right
      cases hkk : m.kind <;> simp [hkk, MoveKind.driveDuring, DriveState.lit] at hk ⊢
    · unfold State.firstPhase
      have hk' : m.kind = .stop ∨ m.kind = .park := by
        by_contra hn
        exact hk ⟨fun e => hn (Or.inl e), fun e => hn (Or.inr e)⟩
      rcases hk' with hk' | hk' <;> simp only [hk'] at hcore hsup ⊢
      · exact State.Sound.startSpinDown hcore hsup
      · exact State.Sound.startSpinDown hcore hsup

/-! ### The Pickup Arbiter -/

theorem State.Sound.arb (h : s.Sound) {a : Arb} (hq : a.QueueLaw) (hm : a.mark.isSome = true → s.arb.mark.isSome = true) :
    ({ s with arb := a } : State).Sound :=
  h.of_core { h.toCore with queues := hq, anchor := ⟨h.anchor.1, fun hn => h.anchor.2 (hm hn)⟩ } rfl rfl rfl

theorem State.Sound.grantActions (h : s.Sound) (c : Candidate) : (s.grantActions c).Sound := by
  have ht : ({ s with
      arb :=
        { s.arb with
          source := c.source
          urgentWaiting := if c.source = .urgent then false else s.arb.urgentWaiting
          claim := .none, run := c.run } } : State).Sound :=
    h.arb
      ⟨h.queues.1, h.queues.2.1, fun hn => h.queues.2.2 (by
        revert hn
        simp only
        split
        · exact fun hf => absurd hf (by decide)
        · exact id)⟩ id
  have hu : ∀ u : State, u.Sound → (if c.entry.kind.dropsAnchor then u.dropAnchor else u).Sound := by
    intro u hu
    split
    · exact hu.dropAnchor
    · exact hu
  unfold State.grantActions
  dsimp only
  split
  · exact (hu _ ht).clearMark _
  · exact hu _ ht

theorem State.pickupFree_iff (s : State) :
    s.pickupFree = true ↔ s.mve.active = none ∧ s.mve.holdJump = .none ∧ s.mve.activity = .none ∧
      s.dsv.drive ≠ .recovering ∧ s.dsv.drive ≠ .powerHold := by
  simp [State.pickupFree, and_assoc]

theorem State.grantActions_frame (s : State) (c : Candidate) :
    (s.grantActions c).mve = s.mve ∧ (s.grantActions c).dsv = s.dsv := by
  unfold State.grantActions
  dsimp only
  split <;> split <;> simp

theorem State.Sound.grant (h : s.Sound) (hf : s.pickupFree = true) (c : Candidate) : (s.grant c).Sound := by
  obtain ⟨-, -, h3, -, -⟩ := s.pickupFree_iff.mp hf
  exact (h.grantActions c).beginMove (by rw [(s.grantActions_frame c).1]; exact h3) _ _

theorem State.Sound.chooseOnce (h : s.Sound) {u : State} (hu : s.chooseOnce = some u) : u.Sound := by
  unfold State.chooseOnce at hu
  split at hu
  · next hf =>
    obtain ⟨c, -, rfl⟩ := Option.map_eq_some_iff.mp hu
    exact h.grant hf c
  · cases hu

theorem State.Sound.choose (n : Nat) (h : s.Sound) : (State.choose n s).Sound := by
  induction n generalizing s with
  | zero => exact h
  | succ n ih =>
    unfold State.choose
    split
    · next hu => exact ih (h.chooseOnce hu)
    · exact h

theorem State.Sound.arbitrate (h : s.Sound) : s.arbitrate.Sound := h.choose _

/-- With the pickup in use nothing is granted (R141, R142). -/
theorem State.arbitrate_busy (h : s.pickupFree = false) : s.arbitrate = s := by
  unfold State.arbitrate
  cases s.entriesHeld with
  | zero => rfl
  | succ n =>
    unfold State.choose
    simp [State.chooseOnce, h]

/-- With no entry that can be granted nothing is granted (R144). -/
theorem State.arbitrate_idle (h : s.candidate = none) : s.arbitrate = s := by
  unfold State.arbitrate
  cases s.entriesHeld with
  | zero => rfl
  | succ n =>
    unfold State.choose
    simp [State.chooseOnce, h]

/-! ### Where no grant follows -/

/-- The candidate is read from the two queues, the slot, the claim, the run and the policy, and from each store's mode and
records (R143, R144). -/
theorem State.candidate_congr {t : State} (ha : t.arb = { s.arb with mark := t.arb.mark })
    (hp : t.pifP.mode = s.pifP.mode ∧ t.pifP.older = s.pifP.older ∧ t.pifP.newer = s.pifP.newer)
    (hd : t.pifD.mode = s.pifD.mode ∧ t.pifD.older = s.pifD.older ∧ t.pifD.newer = s.pifD.newer) :
    t.candidate = s.candidate := by
  have hP : t.arb.queueP = s.arb.queueP := by rw [ha]
  have hD : t.arb.queueD = s.arb.queueD := by rw [ha]
  have hU : t.arb.urgent = s.arb.urgent ∧ t.arb.urgentWaiting = s.arb.urgentWaiting := by rw [ha]; exact ⟨rfl, rfl⟩
  have hC : t.arb.claim = s.arb.claim ∧ t.arb.run = s.arb.run ∧ t.arb.policy = s.arb.policy := by
    rw [ha]; exact ⟨rfl, rfl, rfl⟩
  have he : ∀ p, t.eligibleHead p = s.eligibleHead p := by
    intro p
    cases p <;> simp only [State.eligibleHead, State.pif, Pif.fill, State.queueOf, hp, hd, hP, hD] <;> rfl
  have hc : t.continuation = s.continuation := by simp only [State.continuation, he, hC]
  have hb : t.byPolicy = s.byPolicy := by simp only [State.byPolicy, he, hC]
  simp only [State.candidate, hc, hb, hU]

/-- The pickup's freedom is read from the Move Engine and the drive state alone (R141). -/
theorem State.pickupFree_congr {t : State} (hm : t.mve.active = s.mve.active) (hj : t.mve.holdJump = s.mve.holdJump)
    (ha : t.mve.activity = s.mve.activity) (hd : t.dsv.drive = s.dsv.drive) : t.pickupFree = s.pickupFree := by
  simp [State.pickupFree, hm, hj, ha, hd]

/-- Where no grant follows, the Arbiter changes nothing, and neither does it in a state that differs only in what no
choice reads. -/
theorem State.Still.arbitrate {t : State} (h : s.Still) (hm : t.mve.active = s.mve.active)
    (hj : t.mve.holdJump = s.mve.holdJump) (hy : t.mve.activity = s.mve.activity) (hd : t.dsv.drive = s.dsv.drive)
    (ha : t.arb = { s.arb with mark := t.arb.mark })
    (hp : t.pifP.mode = s.pifP.mode ∧ t.pifP.older = s.pifP.older ∧ t.pifP.newer = s.pifP.newer)
    (hq : t.pifD.mode = s.pifD.mode ∧ t.pifD.older = s.pifD.older ∧ t.pifD.newer = s.pifD.newer) : t.arbitrate = t := by
  rcases h with h | h
  · exact State.arbitrate_busy ((State.pickupFree_congr hm hj hy hd).trans h)
  · exact State.arbitrate_idle ((State.candidate_congr ha hp hq).trans h)

/-- With no entry held nothing is granted. -/
theorem State.NothingWaits.arbitrate (h : s.NothingWaits) : s.arbitrate = s := by
  simp [State.arbitrate, State.entriesHeld, h.1, h.2.1, h.2.2, State.choose]

/-! ### Aborts -/

theorem State.Sound.startSettling (h : s.Sound) : s.startSettling.Sound := by
  unfold State.startSettling
  split
  · refine State.Sound.closeCommand ?_
    exact h.mve rfl rfl rfl rfl rfl
  · exact h.trackingLost

/-- An abort ends the active move with a drive state that its kind leads to (R128). -/
theorem State.Sound.abortMove (h : s.Sound) (o : Option MoveOutcome) (b : Bool) : (s.abortMove o b).Sound := by
  unfold State.abortMove
  split
  · exact h
  · next m hm =>
    have hb := h.busy hm
    have hu : (if m.kind.stopsDrive then (s.endMove.sledStop.focusOpen.laserOff.brakeOrder).setDrive .idle
        else s.endMove.sledStop.setDrive (s.mve.returnState.getD .tracking) : State).Sound := by
      split
      · exact (h.endMove.sledStop.darken.brakeOrder).setDrive_free (by simp [Mve.endMove])
          (Or.inl (by simpa [Mve.endMove] using hb.2.1)) (Or.inl (by simpa using hb.2.2.1)) (Or.inl (by simp))
      · next hs =>
        have hret := (h.work.1 m hm).2 (by simpa using hs)
        refine h.endMove.sledStop.setDrive_free (by simp [Mve.endMove])
          (Or.inl (by simpa [Mve.endMove] using hb.2.1)) (Or.inl (by simpa using hb.2.2.1)) (Or.inr ?_)
        rcases hret with hr | hr <;> rw [hr] <;> rfl
    dsimp only
    have hv : ∀ u : State, u.Sound → (match o with
        | some out => u.finishMove (some m) out none
        | none => u.arbComplete none m.chain).Sound := by
      intro u hu
      split
      · exact hu.finishMove _ _ _
      · exact hu.arbComplete _ _
    generalize hue : (ite (m.kind.stopsDrive = true) _ _ : State) = u at hu ⊢
    split
    · exact hv u hu
    · exact (hv u hu).startSettling

theorem State.Sound.preempt (h : s.Sound) : s.preempt.Sound := by
  unfold State.preempt
  split
  · exact (h.abortMove _ _).bump _
  · exact h

theorem State.Sound.dropClaim (h : s.Sound) (p : Port) : (s.dropClaim p).Sound := by
  unfold State.dropClaim
  split
  · exact h.arb h.queues id
  · exact h

end Sys2Proof.Machine
end

