-- ==== Sys2Proof/Laws/Events.lean ====
section
/-!
SUPPORT. The servo sample event, the expiries of the millisecond tick and the events of the input lines keep a sound
state (Safety.lean): one lemma per operation of Machine/Samples.lean, Machine/Ticks.lean and Machine/Inputs.lean.
-/

namespace Sys2Proof.Machine

variable {s t : State}

/-! ### Servo sample event -/

/-- The Detector Front End and the Disturbance Monitor carry no law. -/
theorem State.Sound.dfe (h : s.Sound) (v : Dfe) : ({ s with dfe := v } : State).Sound :=
  h.of_core { h.toCore with } rfl rfl rfl

theorem State.Sound.dmn (h : s.Sound) (v : Dmn) : ({ s with dmn := v } : State).Sound :=
  h.of_core { h.toCore with } rfl rfl rfl

theorem State.Sound.slc (h : s.Sound) (v : Slc) : ({ s with slc := v } : State).Sound :=
  h.of_core { h.toCore with } rfl rfl rfl

theorem State.Sound.slip (h : s.Sound) : s.slip.Sound := by
  have ht := (((h.bump .slip).raiseBoth .slip).dropAnchor.clearMark true)
  unfold State.slip
  dsimp only
  split
  · exact State.Sound.trackingLost (State.Sound.bump (ht.dmn _) _)
  · exact ht.dmn _

theorem State.Sound.crossing (h : s.Sound) (d : Dir) (c : TrackState) : (s.crossing d c).Sound := by
  have ht := (h.moveIndex d.step).mveCrossing
  unfold State.crossing
  dsimp only
  refine State.Sound.arbitrate ?_
  split
  · exact ht.slip
  · exact ht

theorem State.Sound.frontStage (h : s.Sound) (x : SampleInputs) : (s.frontStage x).Sound := by
  unfold State.frontStage
  refine State.Sound.balanceSample ?_
  split
  · exact State.Sound.crossing (h.dfe _) _ _
  · exact h.dfe _

theorem closedSample_range (e acc : Int) (kp ki kd : Nat) (ks integ ePrev : Int)
    (hi : integRange integ) :
    driveRange (closedSample e acc kp ki kd ks integ ePrev).1 ∧
      integRange (closedSample e acc kp ki kd ks integ ePrev).2 := by
  unfold closedSample
  refine ⟨clampI_range (by decide) _, ?_⟩
  dsimp only
  split
  · exact hi
  · exact clampI_range (by decide) _

theorem FocusLoop.compute_range (f : FocusLoop) (m : Params) (e a : Int) (hi : integRange f.integ) :
    driveRange (f.compute m e a).drive ∧ integRange (f.compute m e a).integ := by
  unfold FocusLoop.compute
  dsimp only
  split <;> exact closedSample_range _ _ _ _ _ _ _ _ hi

theorem TrackLoop.compute_range (f : TrackLoop) (m : Params) (e a : Int) (hi : integRange f.integ) :
    driveRange (f.compute m e a).drive ∧ integRange (f.compute m e a).integ := by
  unfold TrackLoop.compute
  dsimp only
  split <;> exact closedSample_range _ _ _ _ _ _ _ _ hi

theorem rampStep_range {r : Ramp} {d step span : Int} (hd : driveRange d) (hs : 1 ≤ step) (hp : 256 ≤ span)
    (hq : span ≤ 2047) : driveRange (rampStep r d step span).1 := by
  unfold driveRange at hd ⊢
  unfold rampStep
  cases r <;> dsimp only <;> omega

theorem Params.InRange.stepRange {m : Params} (h : m.InRange) : 1 ≤ m.searchStep := by
  have := h.1 .searchStep
  simp only [ParamId.lo, ParamId.hi, Params.get] at this
  omega

/-- A loop law where the focus loop is not CLOSED or HELD: tracking is OPEN (R20). -/
theorem State.Core.tracking_open (h : s.Core) (hf : s.focus.state.locked = false) : s.track.state = .opened := by
  by_contra hn
  exact absurd (h.loops hn) (by simp [hf])

theorem State.Sound.focusStage (h : s.Sound) : s.focusStage.Sound := by
  refine h.of_core ?_ ?_ ?_ ?_
  · unfold State.focusStage
    split
    · exact h.toCore
    · exact h.toCore
    · next hf =>
      have hr := s.focus.compute_range s.prm s.dfe.fe s.dfe.az h.range.2.2.2.1
      exact
        { h.toCore with
          loops := fun _ => by
            show (s.focus.compute _ _ _).state.locked = true
            unfold FocusLoop.compute; simp only [hf]; rfl
          rest := ⟨fun hn => by
            have : (s.focus.compute s.prm s.dfe.fe s.dfe.az).state = .opened := hn
            unfold FocusLoop.compute at this; simp [hf] at this, h.rest.2⟩
          dark := fun hn => by have := h.dark hn; rw [hf] at this; cases this
          range := ⟨h.range.1, hr.1, h.range.2.2.1, hr.2, h.range.2.2.2.2⟩ }
    · next hf =>
      have ho := h.toCore.tracking_open (by rw [hf]; rfl)
      have hlaser : s.dsv.laser = true := by
        cases hl : s.dsv.laser
        · have := h.dark hl; rw [hf] at this; cases this
        · rfl
      have hd := h.range.2.1
      split
      · exact
          { h.toCore with
            loops := fun _ => rfl
            rest := ⟨fun hn => (nomatch hn), h.rest.2⟩
            dark := fun hn => absurd (hlaser.symm.trans hn) (by decide)
            range := ⟨h.range.1, hd, h.range.2.2.1, by
              unfold driveRange at hd
              show integRange (s.focus.drive * 1024)
              unfold integRange Config.minIntegrator Config.maxIntegrator
              omega, h.range.2.2.2.2⟩ }
      · have hs := h.range.1.stepRange
        have hp := h.range.1.span
        have hr : driveRange (rampStep s.focus.ramp s.focus.drive s.prm.searchStep s.prm.searchSpan).1 :=
          rampStep_range hd (by omega) (by omega) (by omega)
        have hstep : State.Core { s with focus := s.focus.searchStep s.prm s.dfe.fe } :=
          { h.toCore with
            loops := fun hn => absurd ho hn
            rest := ⟨fun hn => by
              have : s.focus.state = .opened := hn
              (rw [hf] at this; cases this), h.rest.2⟩
            dark := fun hn => absurd (hlaser.symm.trans hn) (by decide)
            range :=
              ⟨h.range.1, hr, h.range.2.2.1, h.range.2.2.2.1, h.range.2.2.2.2⟩ }
        dsimp only
        split
        · exact hstep.focusOpen
        · exact hstep
  all_goals
    unfold State.focusStage
    split <;> (try rfl)
    dsimp only
    split <;> (try rfl)
    split <;> simp

/-- The tracking loop's part of the stage, where the focus loop is CLOSED or HELD unless tracking is OPEN. -/
theorem State.Sound.trackStage (h : s.Sound) (f : FocusState) : (s.trackStage f).Sound := by
  refine h.of_core ?_ ?_ ?_ ?_
  · unfold State.trackStage
    split
    · exact h.toCore
    · exact h.toCore
    · next hf =>
      have hr := s.track.compute_range s.prm s.dfe.te s.dfe.ax h.range.2.2.2.2.1
      exact
        { h.toCore with
          loops := fun _ => h.loops (by rw [hf]; decide)
          rest := ⟨h.rest.1, fun hn => by
            have : (s.track.compute s.prm s.dfe.te s.dfe.ax).state = .opened ∨
              (s.track.compute s.prm s.dfe.te s.dfe.ax).state = .closing := hn
            unfold TrackLoop.compute at this; simp [hf] at this⟩
          range := ⟨h.range.1, h.range.2.1, hr.1, h.range.2.2.2.1, hr.2, h.range.2.2.2.2.2⟩ }
    · next hf =>
      split
      · exact
          { h.toCore with
            loops := fun _ => h.loops (by rw [hf]; decide)
            rest := ⟨h.rest.1, fun hn => by rcases hn with hn | hn <;> cases hn⟩
            range := ⟨h.range.1, h.range.2.1, h.range.2.2.1, h.range.2.2.2.1, integRange_zero, h.range.2.2.2.2.2⟩ }
      · exact h.toCore
    · next hf =>
      exact
        { h.toCore with
          loops := fun _ => h.loops (by rw [hf]; decide)
          rest := ⟨h.rest.1, fun hn => by
            have : s.track.state = .opened ∨ s.track.state = .closing := hn
            simp [hf] at this⟩
          range :=
            ⟨h.range.1, h.range.2.1, (kickDrive_range h.range.1.kickRange.2 s.track.jumpDir s.track.kick :),
              h.range.2.2.2.1, h.range.2.2.2.2⟩ }
  all_goals
    unfold State.trackStage
    split <;> (try rfl)
    split <;> simp

theorem State.Sound.followSample (h : s.Sound) (f : TrackState) : (s.followSample f).Sound := by
  unfold State.followSample
  split
  · exact h.slc _
  · exact h.slc _
  · exact h.slc _
  · split
    · exact h.slc _
    · exact h
  · exact h.slc _
  · exact h

theorem State.Sound.takeReport (h : s.Sound) (r : LprReport) : (s.takeReport r).Sound := by
  cases r
  · exact h
  · exact h.onPulledIn
  · exact h.onSearchFailed
  · exact h.onTrackingClosed

theorem State.Sound.loopStage (h : s.Sound) : s.loopStage.Sound := h.focusStage.trackStage _

theorem State.Sound.lprStage (h : s.Sound) : s.lprStage.Sound :=
  ((h.loopStage.followSample _).takeReport _).arbitrate

theorem State.Sound.judgeDefect (h : s.Sound) (f : FocusState) : (s.judgeDefect f).Sound := by
  unfold State.judgeDefect
  split
  · split
    · exact State.Sound.holdLoops (State.Sound.bump (h.dmn _) _)
    · exact h.dmn _
  · split
    · exact State.Sound.releaseLoops (h.dmn _)
    · split
      · exact State.Sound.raiseBoth (State.Sound.bump (State.Sound.releaseLoops (h.dmn _)) _) _
      · split <;> exact h.dmn _
  · split
    · exact h
    · exact h.dmn _

theorem State.Sound.judgeFocusLoss (h : s.Sound) (f : FocusState) : (s.judgeFocusLoss f).Sound := by
  unfold State.judgeFocusLoss
  split
  · exact (State.Sound.raiseBoth (State.Sound.bump (h.dmn _) _) _).focusLost.arbitrate
  · exact h.dmn _

theorem State.Sound.judgeShock (h : s.Sound) : s.judgeShock.Sound := by
  unfold State.judgeShock
  split
  · split
    · exact h.dmn _
    · exact State.Sound.raiseBoth (State.Sound.bump (State.Sound.setGains (h.dmn _) _) _) _
  · split
    · exact State.Sound.setGains (h.dmn _) _
    · exact h

theorem State.Sound.judgeOverload (h : s.Sound) (b : Bool) : (s.judgeOverload b).Sound := by
  unfold State.judgeOverload
  split
  · dsimp only
    split
    · exact State.Sound.arbitrate (State.Sound.fault (h.dmn _) _)
    · exact h.dmn _
  · exact h.dmn _

theorem State.Sound.sampleEvent (h : s.Sound) (x : SampleInputs) : (s.sampleEvent x).Sound :=
  ((((h.frontStage x).lprStage.judgeDefect _).judgeFocusLoss _).judgeShock).judgeOverload _

end Sys2Proof.Machine
end

