-- ==== Sys2Proof/Laws/Lines.lean ====
section
/-!
SUPPORT. The expiries of the millisecond tick and the events of the input lines keep a sound state (Safety.lean): one
lemma per operation of Machine/Ticks.lean and Machine/Inputs.lean.
-/

namespace Sys2Proof.Machine

variable {s t : State}

/-! ### Expiries and ticks -/

/-- The spindle written with the same permit and target period. -/
theorem State.Sound.spc (h : s.Sound) {c : Spc} (hd : c.DutyLaw) (hp : c.permit = s.spc.permit)
    (ht : c.target = s.spc.target) : ({ s with spc := c } : State).Sound :=
  h.of_core
    { h.toCore with
      permit := hp.trans h.permit
      duty := hd
      index := ⟨h.index.1, h.index.2.1, ht.trans h.index.2.2⟩ }
    rfl rfl rfl

theorem State.Sound.closeFails (h : s.Sound) : s.closeFails.Sound := by
  unfold State.closeFails
  refine State.Sound.arbitrate (State.Sound.onCloseFailed ?_)
  exact h.of_core
    { h.toCore with
      loops := fun hn => absurd rfl hn
      rest := ⟨h.rest.1, fun _ => rfl⟩
      range := ⟨h.range.1, h.range.2.1, driveRange_zero, h.range.2.2.2.1, integRange_zero, h.range.2.2.2.2.2⟩ }
    rfl rfl rfl

theorem State.Sound.spinFails (h : s.Sound) : s.spinFails.Sound := by
  unfold State.spinFails
  refine State.Sound.arbitrate (State.Sound.fault ?_ _)
  exact h.spc (c := { s.spc with spinTimer := s.spc.spinTimer.expired }) h.duty rfl rfl

theorem State.Sound.spindleStops (h : s.Sound) : s.spindleStops.Sound := by
  unfold State.spindleStops
  refine State.Sound.arbitrate (State.Sound.onSpindleStopped ?_)
  exact h.spc (c := { s.spc.rest .stopped with da := 0, silence := Config.silenceLimit })
    ⟨Nat.zero_le _, ⟨rfl, rfl⟩, fun _ => Or.inl rfl⟩ rfl rfl

theorem State.Sound.sledSticks (h : s.Sound) : s.sledSticks.Sound := by
  unfold State.sledSticks
  refine State.Sound.arbitrate (State.Sound.onSledStuck ?_)
  exact h.slc _

theorem State.Sound.nudgeEnds (h : s.Sound) : s.nudgeEnds.Sound := h.slc _

theorem State.Sound.jumpTimesOut (h : s.Sound) : s.jumpTimesOut.Sound := by
  unfold State.jumpTimesOut
  refine State.Sound.arbitrate (State.Sound.startClosePhase ?_)
  exact h.mve rfl rfl rfl rfl rfl

theorem State.Sound.holdTimesOut (h : s.Sound) (hj : s.mve.holdJump = .jumping) : s.holdTimesOut.Sound := by
  unfold State.holdTimesOut
  refine State.Sound.arbitrate (State.Sound.closeHoldJump ?_ ?_)
  · exact h.mve rfl rfl rfl rfl rfl
  · exact h.work.2.1 (by rw [hj]; decide)

theorem State.Sound.seekTimesOut (h : s.Sound) : s.seekTimesOut.Sound := by
  unfold State.seekTimesOut
  refine State.Sound.arbitrate (State.Sound.startClosePhase (State.Sound.sledStop ?_))
  exact h.mve rfl rfl rfl rfl rfl

theorem State.Sound.waitExpires (h : s.Sound) : s.waitExpires.Sound := by
  unfold State.waitExpires
  refine State.Sound.arbitrate (State.Sound.correctOnExpiry ?_)
  exact h.mve rfl rfl rfl rfl rfl

theorem State.Sound.gapTimesOut (h : s.Sound) : s.gapTimesOut.Sound := by
  unfold State.gapTimesOut
  refine State.Sound.arbitrate (State.Sound.startClosePhase ?_)
  exact h.mve rfl rfl rfl rfl rfl

theorem State.Sound.tickTimers (h : s.Sound) : s.tickTimers.Sound :=
  h.of_core
    { h.toCore with
      loops := h.loops
      rest := h.rest
      permit := h.permit
      duty := h.duty
      work := h.work
      range := h.range
      index := h.index }
    rfl rfl rfl

theorem State.Sound.pwmPeriod (h : s.Sound) : s.pwmPeriod.Sound :=
  State.Sound.slc (h.spc (c := { s.spc with pwm := s.spc.pwm.next s.spc.signedDuty }) h.duty rfl rfl) _

theorem State.Sound.pending (h : s.Sound) (q : List Instr) : ({ s with pending := q } : State).Sound :=
  h.of_core { h.toCore with } rfl rfl rfl

/-! ### Hall edges -/

theorem Spc.DutyLaw.integrate {c : Spc} (h : c.DutyLaw) (k : Nat) (hs : c.state = .locking ∨ c.state = .locked) :
    (c.integrate k).DutyLaw := by
  have hr := clampI_range (lo := 0) (hi := Config.max16) (by decide) (c.da + roundAway (c.error * k) 64)
  refine ⟨?_, ?_, h.2.2⟩
  · show (clampI 0 Config.max16 (c.da + roundAway (c.error * k) 64)).toNat ≤ 65535
    unfold Config.max16 at hr ⊢
    omega
  · unfold Spc.TableLaw
    have he : (c.integrate k).state = c.state := rfl
    rw [he]
    rcases hs with hs | hs <;> rw [hs] <;> exact ⟨rfl, rfl⟩

theorem Spc.DutyLaw.judge {c : Spc} (h : c.DutyLaw) (m : Params) :
    (c.judge m).DutyLaw ∧ (c.judge m).permit = c.permit ∧ (c.judge m).target = c.target := by
  unfold Spc.judge
  split
  · exact ⟨h.rest (Or.inr (Or.inl rfl)), rfl, rfl⟩
  · next hs =>
    unfold Spc.judgeAccel
    split
    · have hd := h.2.1
      unfold Spc.TableLaw at hd
      rw [hs] at hd
      refine ⟨⟨show Config.captureDuty ≤ 65535 by decide, ⟨hd.1, show 255 = Config.captureDuty / 256 by decide⟩,
        fun hp => ?_⟩, rfl, rfl⟩
      have := h.2.2 hp
      rw [hs] at this
      simp at this
    · exact ⟨h, rfl, rfl⟩
  · next hs =>
    have hi := h.integrate m.ksi (Or.inl hs)
    unfold Spc.judgeLocking
    have hno : (c.integrate m.ksi).permit = false → False := fun hp => by
      have := h.2.2 hp
      rw [hs] at this
      simp at this
    have ht : (c.integrate m.ksi).dir = .fwd ∧ (c.integrate m.ksi).duty = (c.integrate m.ksi).da / 256 := ⟨rfl, rfl⟩
    split
    · split
      · exact ⟨⟨hi.1, ht, fun hp => (hno hp).elim⟩, rfl, rfl⟩
      · exact ⟨hi, rfl, rfl⟩
    · exact ⟨hi, rfl, rfl⟩
  · next hs =>
    have hi := h.integrate m.ksi (Or.inr hs)
    unfold Spc.judgeLocked
    have hno : (c.integrate m.ksi).permit = false → False := fun hp => by
      have := h.2.2 hp
      rw [hs] at this
      simp at this
    have ht : (c.integrate m.ksi).dir = .fwd ∧ (c.integrate m.ksi).duty = (c.integrate m.ksi).da / 256 := ⟨rfl, rfl⟩
    split
    · split
      · exact ⟨⟨hi.1, ht, fun hp => (hno hp).elim⟩, rfl, rfl⟩
      · exact ⟨hi, rfl, rfl⟩
    · exact ⟨hi, rfl, rfl⟩
  · split
    · exact ⟨h.rest (Or.inr (Or.inl rfl)), rfl, rfl⟩
    · exact ⟨h, rfl, rfl⟩
  · exact ⟨h, rfl, rfl⟩
  · exact ⟨h, rfl, rfl⟩

theorem State.Sound.reportEdge (h : s.Sound) (b : SpindleState) : (s.reportEdge b).Sound := by
  unfold State.reportEdge
  split
  · exact h.onSpindleLocked
  · exact (h.bump _).raiseBoth _
  · exact h

theorem State.Sound.judgeEdge (h : s.Sound) (us : Nat) : (s.judgeEdge us).Sound := by
  have ht : (({ s with spc := s.spc.latch us } : State).retarget).Sound :=
    h.spc (c := { s.spc.latch us with target := targetPeriod s.pru.trackIndex s.prm.sf s.prm.kclv })
      h.duty rfl h.index.2.2.symm
  have hj := ht.duty.judge s.prm
  unfold State.judgeEdge
  dsimp only
  refine State.Sound.reportEdge ?_ _
  exact ht.spc hj.1 hj.2.1 hj.2.2

theorem State.Sound.pru (h : s.Sound) {v : Pru} (hi : v.trackIndex = s.pru.trackIndex)
    (ha : v.anchor.isSome = true → s.pru.anchor.isSome = true) : ({ s with pru := v } : State).Sound :=
  h.of_core
    { h.toCore with
      anchor := ⟨fun hn => h.anchor.1 (ha hn), h.anchor.2⟩
      index := by have := h.index; unfold State.IndexLaw at this ⊢; simpa only [hi] using this }
    rfl rfl rfl

theorem State.Sound.pruRevolution (h : s.Sound) : s.pruRevolution.Sound := by
  have ht : ∀ u : State, u.Sound →
      (if u.pru.anchor.isSome then { u with pru := { u.pru with revs := satN Config.max16 (u.pru.revs + 1) } } else u :
        State).Sound := by
    intro u hu
    split
    · exact hu.pru rfl id
    · exact hu
  unfold State.pruRevolution
  dsimp only
  split
  · exact ht _ (h.moveIndex 1)
  · exact ht _ h

theorem State.Sound.slcRevolution (h : s.Sound) : s.slcRevolution.Sound := by
  unfold State.slcRevolution
  dsimp only
  split
  · split
    · exact h.slc _
    · exact h.slc _
  · exact h

theorem State.Sound.revolution (h : s.Sound) : s.revolution.Sound := by
  unfold State.revolution
  refine State.Sound.mveRevolution (State.Sound.slcRevolution ?_)
  exact h.pruRevolution.dmn _

theorem State.Sound.countEdge (h : s.Sound) : s.countEdge.Sound := by
  unfold State.countEdge
  split
  · refine State.Sound.revolution ?_
    exact h.spc (c := { s.spc with edges := 0 }) h.duty rfl rfl
  · exact h.spc (c := { s.spc with edges := s.spc.edges + 1 }) h.duty rfl rfl

/-! ### HOME switch, supply and reset -/

theorem State.Sound.homeReached (h : s.Sound) : s.homeReached.Sound := by
  unfold State.homeReached
  split
  · exact h.homingComplete.onSledHomed
  · exact h.slc _

/-- A spindle without a permit, and a Drive Supervisor whose clamp or LOWV calls for none. -/
theorem State.Core.unpermitted (h : s.Core) {d : Dsv} {c : Spc} (hd : d.laser = s.dsv.laser)
    (hv : d.drive = s.dsv.drive) (hr : d.record = s.dsv.record) (hl : d.lost = s.dsv.lost)
    (hn : d.clamp ≠ .clamped ∨ d.lowv = true) (h1 : c.permit = false) (h2 : c.target = s.spc.target)
    (h3 : c.DutyLaw) : ({ s with dsv := d, spc := c } : State).Core := by
  have hp : (d.clamp = .clamped && !d.lowv) = false := by
    rcases hn with hn | hn <;> simp [hn]
  exact
    { h with
      dark := fun hx => h.dark (by rw [← hd]; exact hx)
      permit := by unfold State.PermitLaw; simp only [h1, hp]
      duty := h3
      work := by have := h.work; unfold State.WorkLaw at this ⊢; simpa only [hv] using this
      anchor := by have := h.anchor; unfold State.AnchorLaw at this ⊢; simpa only [hv] using this
      record := by have := h.record; unfold Dsv.RecordLaw at this ⊢; simpa only [hr, hl] using this
      range := h.range
      index := ⟨h.index.1, h.index.2.1, h2.trans h.index.2.2⟩ }

/-- The permit withdrawn, from a state in which only the permit may not fit the clamp and LOWV yet. -/
theorem State.Core.withdrawPermit (h : s.Core) {d : Dsv} (hd : d.laser = s.dsv.laser) (hv : d.drive = s.dsv.drive)
    (hr : d.record = s.dsv.record) (hl : d.lost = s.dsv.lost) (hn : d.clamp ≠ .clamped ∨ d.lowv = true) :
    (({ s with dsv := d } : State).withdrawPermit).Core := by
  have key : ∀ c : Spc, c.permit = false → c.target = s.spc.target → c.DutyLaw →
      ({ s with dsv := d, spc := c } : State).Core := fun _ => h.unpermitted hd hv hr hl hn
  unfold State.withdrawPermit State.coastOrder
  have hda := h.duty.1
  have ht := h.duty.2.1
  unfold Spc.TableLaw at ht
  dsimp only
  split
  · exact key _ rfl rfl ⟨hda, ⟨rfl, rfl⟩, fun _ => Or.inr (Or.inr rfl)⟩
  · exact key _ rfl rfl ⟨hda, ⟨rfl, rfl⟩, fun _ => Or.inr (Or.inr rfl)⟩
  · exact key _ rfl rfl ⟨hda, ⟨rfl, rfl⟩, fun _ => Or.inr (Or.inr rfl)⟩
  · exact key _ rfl rfl ⟨hda, ⟨rfl, rfl⟩, fun _ => Or.inr (Or.inr rfl)⟩
  · exact key _ rfl rfl ⟨hda, ⟨rfl, rfl⟩, fun _ => Or.inr (Or.inr rfl)⟩
  · next hs =>
    have hs : s.spc.state = .coast := hs
    rw [hs] at ht
    refine key _ rfl rfl ⟨hda, ?_, fun _ => Or.inr (Or.inr hs)⟩
    unfold Spc.TableLaw
    simp only [hs]
    exact ⟨ht.1, trivial⟩
  · next hs =>
    have hs : s.spc.state = .stopped := hs
    rw [hs] at ht
    refine key _ rfl rfl ⟨hda, ?_, fun _ => Or.inl hs⟩
    unfold Spc.TableLaw
    simp only [hs]
    exact ⟨ht.1, trivial⟩

/-- The permit withdrawn where it was granted. -/
theorem State.Core.withdrawGranted (h : s.Core) {d : Dsv} (hd : d.laser = s.dsv.laser) (hv : d.drive = s.dsv.drive)
    (hr : d.record = s.dsv.record) (hl : d.lost = s.dsv.lost) (hn : d.clamp ≠ .clamped ∨ d.lowv = true) :
    (({ s with dsv := d } : State).withdrawGranted).Core := by
  unfold State.withdrawGranted
  split
  · exact h.withdrawPermit hd hv hr hl hn
  · next hp => exact h.unpermitted hd hv hr hl hn (by simpa using hp) rfl h.duty

theorem State.Sound.lowvEvent (h : s.Core) (hp : s.lowvPin = true) : s.lowvEvent.Sound := by
  have ht := State.Core.withdrawPermit h (d := { s.dsv with lowv := true }) rfl rfl rfl rfl (Or.inr rfl)
  have hu := ((ht.focusOpen.laserOff (by simp [FocusLoop.emptied])).sledStop.endWork.noRecovery.dropAnchor).clearMark true
  have hv := State.Core.setDrive (d := .powerHold) hu.endMove
    (fun m hm => by simp [Mve.endMove] at hm) (Or.inl (by simp))
  unfold State.lowvEvent
  dsimp only
  refine State.Sound.arbitrate (State.Sound.finishMove ?_ _ _ _)
  exact
    { hv with
      laser := fun hon => by simp at hon
      supply := ⟨fun _ => by simp [hp], fun _ => by simp⟩ }

/-- The permit granted by the clamp and LOWV, from a state in which it was withdrawn. -/
theorem State.Core.grantPermit (h : s.Core) (hw : s.spc.permit = false) {d : Dsv} (hd : d.laser = s.dsv.laser)
    (hv : d.drive = s.dsv.drive) (hr : d.record = s.dsv.record) (hl : d.lost = s.dsv.lost) :
    (({ s with dsv := d } : State).grantPermit).Core := by
  have key : ∀ b : Bool, b = (d.clamp = .clamped && !d.lowv) →
      ({ s with dsv := d, spc := { s.spc with permit := b } } : State).Core := fun b hb =>
    { h with
      dark := fun hx => h.dark (by rw [← hd]; exact hx)
      permit := hb
      duty := ⟨h.duty.1, h.duty.2.1, fun _ => h.duty.2.2 hw⟩
      work := by have := h.work; unfold State.WorkLaw at this ⊢; simpa only [hv] using this
      anchor := by have := h.anchor; unfold State.AnchorLaw at this ⊢; simpa only [hv] using this
      record := by have := h.record; unfold Dsv.RecordLaw at this ⊢; simpa only [hr, hl] using this
      range := h.range
      index := h.index }
  unfold State.grantPermit
  split
  · next hc => exact key true hc.symm
  · next hc =>
    have := key false (by simpa using hc)
    rw [← hw] at this
    exact this

theorem Dsv.afterRelease_dark (d : Dsv) : d.afterRelease.lit = false := by
  unfold Dsv.afterRelease
  split
  · rfl
  · split <;> rfl

/-- In a drive state that no kind of move stands with no move is active (R105). -/
theorem State.Core.no_move (h : s.Core) (hd : ∀ k : MoveKind, s.dsv.drive ≠ k.driveDuring) : s.mve.active = none := by
  rcases hm : s.mve.active with _ | m
  · rfl
  · exact absurd (h.work.1 m hm).1 (hd _)

/-- Outside RECOVERING no recovery activity is in flight (R133). -/
theorem State.Core.no_activity (h : s.Core) (hd : s.dsv.drive ≠ .recovering) : s.mve.activity = .none := by
  by_contra hn
  exact hd (h.work.2.2 hn)

theorem State.Sound.releaseEvent (h : s.Core) (hp : s.lowvPin = false) (hl : s.dsv.laser = false)
    (hw : s.spc.permit = false) (hm : s.mve.active = none) (ha : s.mve.activity = .none) : s.releaseEvent.Sound := by
  have ht := State.Core.grantPermit h hw (d := { s.dsv with lowv := false }) rfl rfl rfl rfl
  have hv := State.Core.setDrive (d := s.dsv.afterRelease) ht.endMove
    (fun m hs => by simp [hm] at hs) (Or.inl (by simpa using ha))
  unfold State.releaseEvent
  dsimp only
  refine State.Sound.arbitrate ?_
  exact
    { hv with
      laser := fun hon => by simp [hl] at hon
      supply := ⟨fun _ => by simp [hp], fun hon => by simp at hon⟩ }

theorem Params.defaults_inRange : Params.defaults.InRange :=
  ⟨fun q => by cases q <;> decide, Or.inl rfl⟩

theorem State.Core.afterReset (s : State) (low : Bool) : (s.afterReset low).Core where
  loops := fun hn => absurd rfl hn
  rest := ⟨fun _ => rfl, fun _ => rfl⟩
  dark := fun _ => rfl
  permit := rfl
  duty := ⟨Nat.zero_le _, ⟨rfl, rfl⟩, fun _ => Or.inr (Or.inl rfl)⟩
  work := ⟨fun _ hm => (nomatch hm), fun hn => absurd rfl hn, fun hn => absurd rfl hn⟩
  anchor := ⟨fun hn => (nomatch hn), fun hn => (nomatch hn)⟩
  queues := ⟨Nat.zero_le _, Nat.zero_le _, fun hn => (nomatch hn)⟩
  storeP := ⟨fun hn => (nomatch hn), Nat.zero_le _, show 0 < Config.ticketCount by decide⟩
  storeD := ⟨fun hn => (nomatch hn), Nat.zero_le _, show 0 < Config.ticketCount by decide⟩
  record := fun hn => (nomatch hn)
  range := ⟨Params.defaults_inRange, driveRange_zero, driveRange_zero, integRange_zero, integRange_zero,
    fun _ hv => (nomatch hv)⟩
  index := ⟨show Config.minTrack ≤ 0 by decide, show 0 ≤ Config.maxTrack by decide,
    show 20142 = targetPeriod 0 1 825 by decide⟩

theorem State.Sound.outOfReset (s : State) : s.outOfReset.Sound := by
  have hc := State.Core.afterReset s false
  unfold State.outOfReset
  dsimp only
  split
  · next hp => exact State.Sound.lowvEvent hc hp
  · next hp =>
    exact
      { hc with
        laser := fun hn => (nomatch hn)
        supply := ⟨fun _ => by
          show false = s.lowvPin
          simpa using hp, fun hn => (nomatch hn)⟩ }

theorem State.Sound.heldReset (s : State) : (s.afterReset true).Sound :=
  { State.Core.afterReset s true with
    laser := fun hn => (nomatch hn)
    supply := ⟨fun hn => (nomatch hn), fun hn => (nomatch hn)⟩ }

/-! ### Ports -/

/-- A port's interface written. -/
theorem State.Sound.setPif (h : s.Sound) (p : Port) {v : Pif} (hv : v.StoreLaw) : (s.setPif p v).Sound := by
  cases p
  · exact h.of_core { h.toCore with storeP := hv } rfl rfl rfl
  · exact h.of_core { h.toCore with storeD := hv } rfl rfl rfl

theorem State.Core.store (h : s.Core) (p : Port) : (s.pif p).StoreLaw := by
  cases p
  · exact h.storeP
  · exact h.storeD

theorem State.Sound.respond (h : s.Sound) (p : Port) (r : Response) : (s.respond p r).Sound :=
  h.setPif p (h.store p)

theorem State.Sound.partly (h : s.Sound) (p : Port) : (s.partly p).Sound := h.setPif p (h.store p)

/-- Bytes that are no request change nothing while RSTN is low or the port does not respond (R185, R193). -/
theorem State.shiftOut_idle {p : Port} (h : s.rstnLow = true ∨ ∀ k, (s.pif p).phase ≠ .responding k) (f : Frame) :
    s.shiftOut p f = s := by
  unfold State.shiftOut
  split
  · rfl
  · next hl =>
    have hp : (s.pif p).phase.clocked (2 + 2 * f.words.length) = (s.pif p).phase := by
      unfold PortPhase.clocked
      split
      · next k hk => exact absurd hk ((h.resolve_left hl) k)
      · rfl
    rw [hp]
    cases p <;> rfl

/-- While the port responds they shift out as many bytes (R185). -/
theorem State.shiftOut_responding {p : Port} {k : Nat} (h : s.rstnLow = false)
    (hk : (s.pif p).phase = .responding k) (f : Frame) :
    s.shiftOut p f = s.setPif p { s.pif p with phase := .responding (k + (2 + 2 * f.words.length)) } := by
  simp [State.shiftOut, h, hk, PortPhase.clocked]

theorem State.Sound.shiftOut (h : s.Sound) (p : Port) (f : Frame) : (s.shiftOut p f).Sound := by
  unfold State.shiftOut
  split
  · exact h
  · exact h.setPif p (h.store p)

/-- A request keeps a sound state where what its owner makes of it does. -/
theorem State.Sound.takeRequest (h : s.Sound) {use : PortUse} {need : List Word → Option Nat} {owner : Owner}
    {p : Port} {f : Frame} (ho : ∀ ws, (owner p ws s).1.Sound) : (s.takeRequest use need owner p f).Sound := by
  have hj : (s.judgeRequest use need owner p f).1.Sound := by
    unfold State.judgeRequest
    split
    · exact h
    · split
      · exact h
      · split
        · exact h
        · exact ho _
  unfold State.takeRequest
  split
  · exact h.shiftOut _ _
  · split
    · exact hj.respond _ _
    · exact h.partly _

end Sys2Proof.Machine
end

