-- ==== Sys2Proof/Laws/PerInstr.lean ====
section
/-!
SUPPORT. The family `Frames`, one lemma per constructor of `Instr`: the CODE byte, the port and the frame that a
well-formed request is carried in name that request again (R190). A command that no port carries has no frame.
-/

namespace Sys2Proof.Laws.Frames

open Sys2Proof

/-- The CODE, the port and the frame of a well-formed request name that request (R190). -/
def Statement (i : Instr) : Prop :=
  i.wf = true → ∀ p c f, frameOf i = some (p, c, f) → requestOf c p f = i

/-- A command without a frame. -/
theorem of_none {i : Instr} (h : frameOf i = none) : Statement i := fun _ p c f hf => by
  rw [h] at hf; cases hf

/-- A request whose code is fixed. -/
theorem of_some {i : Instr} {p : Port} {c : Byte} {f : Frame} (h : frameOf i = some (p, c, f))
    (hr : requestOf c p f = i) : Statement i := fun _ p' c' f' hf => by
  rw [h] at hf; cases hf; exact hr

theorem servoSampleEvent (x : SampleInputs) : Statement (.servoSampleEvent x) := of_none rfl
theorem searchFailed (x : SampleInputs) : Statement (.searchFailed x) := of_none rfl
theorem defectForcedEnd (x : SampleInputs) : Statement (.defectForcedEnd x) := of_none rfl
theorem hallEdge (us : Nat) : Statement (.hallEdge us) := of_none rfl
theorem closeTimeout : Statement .closeTimeout := of_none rfl
theorem spinTimeout : Statement .spinTimeout := of_none rfl
theorem spindleStopped : Statement .spindleStopped := of_none rfl
theorem sledStuck : Statement .sledStuck := of_none rfl
theorem nudgeEnd : Statement .nudgeEnd := of_none rfl
theorem jumpTimeout : Statement .jumpTimeout := of_none rfl
theorem holdingJumpTimeout : Statement .holdingJumpTimeout := of_none rfl
theorem seekTimeout : Statement .seekTimeout := of_none rfl
theorem addressWaitExpiry : Statement .addressWaitExpiry := of_none rfl
theorem revolutionGapTimeout : Statement .revolutionGapTimeout := of_none rfl
theorem shockTimeCountdown : Statement .shockTimeCountdown := of_none rfl
theorem elapsedTimeTick : Statement .elapsedTimeTick := of_none rfl
theorem homeSwitchChange (b : Bool) : Statement (.homeSwitchChange b) := of_none rfl
theorem lowvAssertion : Statement .lowvAssertion := of_none rfl
theorem lowvRelease : Statement .lowvRelease := of_none rfl
theorem rstnAsserted : Statement .rstnAsserted := of_none rfl
theorem rstnReleased : Statement .rstnReleased := of_none rfl
theorem powerOn : Statement .powerOn := of_none rfl
theorem submit (p : Port) (f : Frame) : Statement (.submit p f) := of_some rfl rfl
theorem flush (p : Port) (f : Frame) : Statement (.flush p f) := of_some rfl rfl
theorem resetPort (p : Port) (f : Frame) : Statement (.resetPort p f) := of_some rfl rfl
theorem getState (p : Port) (f : Frame) : Statement (.getState p f) := of_some rfl rfl
theorem getPosition (p : Port) (f : Frame) : Statement (.getPosition p f) := of_some rfl rfl
theorem getResults (p : Port) (f : Frame) : Statement (.getResults p f) := of_some rfl rfl
theorem getNotices (p : Port) (f : Frame) : Statement (.getNotices p f) := of_some rfl rfl
theorem setNoticeMask (p : Port) (f : Frame) : Statement (.setNoticeMask p f) := of_some rfl rfl
theorem getCounters (p : Port) (f : Frame) : Statement (.getCounters p f) := of_some rfl rfl
theorem getFault (p : Port) (f : Frame) : Statement (.getFault p f) := of_some rfl rfl
theorem clearFault (p : Port) (f : Frame) : Statement (.clearFault p f) := of_some rfl rfl
theorem getParam (p : Port) (f : Frame) : Statement (.getParam p f) := of_some rfl rfl
theorem setParam (p : Port) (f : Frame) : Statement (.setParam p f) := of_some rfl rfl
theorem setPortMode (p : Port) (f : Frame) : Statement (.setPortMode p f) := of_some rfl rfl
theorem addressReport (p : Port) (f : Frame) : Statement (.addressReport p f) := of_some rfl rfl
theorem mark (p : Port) (f : Frame) : Statement (.mark p f) := of_some rfl rfl
theorem unmark (p : Port) (f : Frame) : Statement (.unmark p f) := of_some rfl rfl
theorem zoneSet (p : Port) (f : Frame) : Statement (.zoneSet p f) := of_some rfl rfl
theorem getZones (p : Port) (f : Frame) : Statement (.getZones p f) := of_some rfl rfl
theorem deckReport (p : Port) (f : Frame) : Statement (.deckReport p f) := of_some rfl rfl
theorem setPolicy (p : Port) (f : Frame) : Statement (.setPolicy p f) := of_some rfl rfl
theorem closePhaseRetry : Statement .closePhaseRetry := of_none rfl
theorem millisecondTick : Statement .millisecondTick := of_none rfl
theorem selectChange (p : Port) (b : Bool) : Statement (.selectChange p b) := of_none rfl
theorem unknownCodeRequest (p : Port) (c : Byte) (f : Frame) : Statement (.unknownCodeRequest p c f) := by
  intro hw p' c' f' hf
  cases hf
  have hk : knownCode c = false := by
    simp only [Instr.wf, Bool.and_eq_true, Bool.not_eq_true'] at hw
    exact hw.2
  unfold requestOf
  split <;> first
    | rfl
    | (next hc => simp [knownCode, hc] at hk)

end Sys2Proof.Laws.Frames
end

