-- ==== Sys2Proof/Laws/Requests.lean ====
section
/-!
SUPPORT. What the owner of each request makes of it keeps a sound state (Safety.lean): one lemma per owner of
Machine/Requests.lean and Machine/Device.lean. Requests that write nothing are not listed.
-/

namespace Sys2Proof.Machine

variable {s t : State}

/-! ### The Pickup Arbiter -/

theorem State.setPif_parts (s : State) (p : Port) (f : Pif) : (s.setPif p f).arb = s.arb ∧
    (s.setPif p f).queueOf = s.queueOf := by
  cases p <;> exact ⟨rfl, rfl⟩

theorem State.submitRefusal_room {p : Port} {x : Submission} (h : s.submitRefusal p x = none)
    (hx : x.urgent = false) : (s.queueOf p).length < Config.queueDepth := by
  unfold State.submitRefusal at h
  split at h
  · cases h
  · split at h
    · cases h
    · rw [hx] at h
      simp only [Bool.false_eq_true, if_false] at h
      split at h
      · cases h
      · omega

theorem State.Sound.enqueue (h : s.Sound) {p : Port} {x : Submission} (hx : s.submitRefusal p x = none) :
    (s.enqueue p x).Sound := by
  have ht := h.setPif p (v := { s.pif p with ticket := ((s.entryOf p x).ticket + 1) % Config.ticketCount })
    ⟨(h.store p).1, (h.store p).2.1, Nat.mod_lt _ (by decide)⟩
  unfold State.enqueue
  dsimp only
  split
  · exact ht.arb ⟨ht.queues.1, ht.queues.2.1, fun _ => rfl⟩ id
  · next hu =>
    refine ht.setQueue p ?_
    have := State.submitRefusal_room hx (by simpa using hu)
    rw [(s.setPif_parts p _).2]
    simp only [List.length_append, List.length_cons, List.length_nil]
    omega

theorem State.Sound.ownSubmit (h : s.Sound) (p : Port) (ws : List Word) : (ownSubmit p ws s).1.Sound := by
  unfold Machine.ownSubmit
  split
  · exact h
  · dsimp only
    split
    · exact h
    · next x _ hx =>
      have he := h.enqueue hx
      unfold State.acceptSubmission
      dsimp only
      refine State.Sound.arbitrate ?_
      split
      · exact he.preempt
      · exact he

theorem State.Sound.removeWaiting (h : s.Sound) (p : Port) : (s.removeWaiting p).Sound := by
  refine h.setQueue p ?_
  unfold State.activeHead
  split <;> simp [Config.queueDepth]

theorem State.Sound.abortOwn (h : s.Sound) (p : Port) (o : Option MoveOutcome) (b : Bool) : (s.abortOwn p o b).Sound := by
  unfold State.abortOwn
  split
  · exact h.abortMove _ _
  · exact h

theorem State.Sound.flushSteps (h : s.Sound) (p : Port) (b : Bool) : (s.flushSteps p b).Sound := by
  have hr := h.removeWaiting p
  have hu : (if b then (s.removeWaiting p).abortOwn p (some .abortedFlush) (s.removeWaiting p).urgentStops
      else s.removeWaiting p).Sound := by
    split
    · exact hr.abortOwn _ _ _
    · exact hr
  unfold State.flushSteps
  dsimp only
  generalize (ite (b = true) _ _ : State) = u at hu ⊢
  split
  · exact (hu.dropClaim p).raise _ _
  · exact hu.dropClaim p

theorem State.Sound.ownFlush (h : s.Sound) (p : Port) (ws : List Word) : (ownFlush p ws s).1.Sound :=
  (h.flushSteps p _).arbitrate

theorem State.Sound.removeUrgent (h : s.Sound) (p : Port) : (s.removeUrgent p).Sound := by
  unfold State.removeUrgent
  split
  · exact h.arb ⟨h.queues.1, h.queues.2.1, fun hn => (nomatch hn)⟩ id
  · exact h

theorem State.Sound.resetArb (h : s.Sound) (p : Port) : (s.resetArb p).Sound := by
  have hv := (((h.removeWaiting p).abortOwn p none (p = .portP && (s.removeWaiting p).urgentStops)).removeUrgent
    p).dropClaim p
  unfold State.resetArb
  dsimp only
  split
  · exact hv.clearMark _
  · exact hv

theorem State.Sound.resetPif (h : s.Sound) (p : Port) : (s.resetPif p).Sound :=
  h.setPif p ⟨fun hn => (nomatch hn), Nat.zero_le _, show 0 < Config.ticketCount by decide⟩

theorem State.Sound.ownResetPort (h : s.Sound) (p : Port) (ws : List Word) : (ownResetPort p ws s).1.Sound :=
  ((h.resetArb p).resetPif p).arbitrate

theorem State.Sound.ownSetPolicy (h : s.Sound) (p : Port) (ws : List Word) : (ownSetPolicy p ws s).1.Sound := by
  unfold Machine.ownSetPolicy
  split
  · exact h
  · exact State.Sound.arbitrate (h.arb h.queues id)

theorem State.Sound.ownMark (h : s.Sound) (p : Port) (ws : List Word) : (ownMark p ws s).1.Sound := by
  unfold Machine.ownMark
  split
  · exact h
  · next m hm =>
    have ha : s.pru.anchor.isSome = true := by
      unfold State.markFor at hm
      split at hm
      · next ha _ => rw [ha]; rfl
      · cases hm
    exact h.of_core { h.toCore with queues := h.queues, anchor := ⟨h.anchor.1, fun _ => h.anchor.1 ha⟩ } rfl rfl rfl

theorem State.Sound.ownUnmark (h : s.Sound) (p : Port) (ws : List Word) : (ownUnmark p ws s).1.Sound := h.clearMark _

/-! ### The Port Interfaces -/

theorem State.Sound.ownGetResults (h : s.Sound) (p : Port) (ws : List Word) : (ownGetResults p ws s).1.Sound := by
  have ht : (s.emptyStore p).Sound := h.setPif p ⟨fun hn => (nomatch hn), Nat.zero_le _, (h.store p).2.2⟩
  unfold Machine.ownGetResults
  dsimp only
  split
  · exact ht.arbitrate
  · exact ht

theorem State.Sound.ownSetPortMode (h : s.Sound) (p : Port) (ws : List Word) : (ownSetPortMode p ws s).1.Sound := by
  unfold Machine.ownSetPortMode
  split
  · exact h
  · next v _ =>
    have ht := h.setPif p (v := { s.pif p with mode := v }) (h.store p)
    unfold answerOk
    dsimp only
    split
    · exact ht.arbitrate
    · exact ht

theorem State.Sound.ownGetNotices (h : s.Sound) (p : Port) (ws : List Word) : (ownGetNotices p ws s).1.Sound :=
  h.setPif p (h.store p)

theorem State.Sound.ownSetNoticeMask (h : s.Sound) (p : Port) (ws : List Word) : (ownSetNoticeMask p ws s).1.Sound :=
  h.setPif p (h.store p)

theorem State.Sound.ownGetCounters (h : s.Sound) (p : Port) (ws : List Word) : (ownGetCounters p ws s).1.Sound := by
  unfold Machine.ownGetCounters
  dsimp only
  split
  · exact h.setPif p (h.store p)
  · exact h

/-! ### Reads -/

theorem State.Sound.ownGetState (h : s.Sound) (p : Port) (ws : List Word) : (ownGetState p ws s).1.Sound := by
  unfold Machine.ownGetState
  split <;> exact h

theorem State.Sound.ownGetParam (h : s.Sound) (p : Port) (ws : List Word) : (ownGetParam p ws s).1.Sound := by
  unfold Machine.ownGetParam
  split <;> exact h

/-! ### Parameters -/

theorem State.Sound.relock (h : s.Sound) (b : Bool) : (s.relock b).Sound := by
  unfold State.relock
  split
  · next hs =>
    have hd := h.duty.2.1
    unfold Spc.TableLaw at hd
    rw [hs.2] at hd
    refine State.Sound.spc h (c := { s.spc with state := .locking, inRun := 0, outRun := 0, spinTimer := .started })
      ⟨h.duty.1, hd, fun hp => ?_⟩ rfl rfl
    have := h.duty.2.2 hp
    rw [hs.2] at this
    simp at this
  · exact h

/-- A parameter written in its range, and for SF and KCLV the target period computed again (R63, R71). -/
theorem State.Sound.writeParam (h : s.Sound) {q : ParamId} {v : Int} (lo : q.lo ≤ v) (hi : v ≤ q.hi)
    (hs : q = .sf → v = 1 ∨ v = 2 ∨ v = 4) : (s.writeParam q v).Sound := by
  have ht : (({ s with prm := s.prm.set q v } : State).retarget).Sound :=
    h.of_core
      { h.toCore with
        permit := h.permit
        duty := h.duty
        range := ⟨h.range.1.set lo hi hs, h.range.2⟩
        index := ⟨h.index.1, h.index.2.1, rfl⟩ }
      rfl rfl rfl
  unfold State.writeParam
  dsimp only
  split
  · exact ht.relock _
  · exact ht
  · next h1 h2 => exact h.setParams lo hi h1 h2

theorem ParamId.span (q : ParamId) : q.lo ≤ q.hi := by cases q <;> decide

theorem State.Sound.ownSetParam (h : s.Sound) (p : Port) (ws : List Word) : (ownSetParam p ws s).1.Sound := by
  unfold Machine.ownSetParam
  split
  · exact h
  · next q _ =>
    dsimp only
    split
    · exact h
    · next hr =>
      have hc := clampI_range q.span (q.valueOf (wordAt ws 1))
      refine h.writeParam hc.1 hc.2 (fun hq => ?_)
      subst hq
      have hv : ParamId.valueOf .sf (wordAt ws 1) = 1 ∨ ParamId.valueOf .sf (wordAt ws 1) = 2 ∨
          ParamId.valueOf .sf (wordAt ws 1) = 4 := by
        have := hr
        simp only [ParamId.refuses, decide_true, Bool.true_and, Bool.not_eq_true', Bool.not_eq_false, Bool.or_eq_true,
          decide_eq_true_eq] at this
        omega
      rcases hv with hv | hv | hv <;> rw [hv] <;> decide

/-! ### Address reports and zones -/

theorem ZoneTable.trackOf_range {z : ZoneTable} {b : Nat} {n : Int} (h : z.trackOf b = some n) :
    0 ≤ n ∧ n ≤ Config.maxTrack := by
  unfold ZoneTable.trackOf at h
  split at h
  · obtain ⟨e, -, rfl⟩ := Option.map_eq_some_iff.mp h
    exact clampI_range (by decide) _
  · cases h

theorem State.reportTest_drive {g : Bool} {b : Nat} (h : s.reportTest g b = 0) : s.dsv.drive.settled = true := by
  unfold State.reportTest at h
  split at h
  · cases h
  · split at h
    · cases h
    · next hd =>
      unfold State.reportDrive at hd
      cases hk : s.dsv.drive <;> simp [hk, DriveState.settled] at hd ⊢

theorem State.Sound.acceptReport (h : s.Sound) (hd : s.dsv.drive.settled = true) (b : Nat) : (s.acceptReport b).Sound := by
  have ht : (s.setIndex ((s.pru.zones.trackOf b).getD s.pru.trackIndex)).Sound := by
    rcases hz : s.pru.zones.trackOf b with _ | n
    · exact h.setIndex h.index.1 h.index.2.1
    · have := ZoneTable.trackOf_range hz
      exact h.setIndex (show (-2048 : Int) ≤ n by omega) this.2
  have hu : (s.setIndex ((s.pru.zones.trackOf b).getD s.pru.trackIndex)).dsv.drive.settled = true := by simpa using hd
  unfold State.acceptReport
  dsimp only
  generalize s.setIndex ((s.pru.zones.trackOf b).getD s.pru.trackIndex) = u at ht hu ⊢
  exact ht.of_core { ht.toCore with anchor := ⟨fun _ => hu, ht.anchor.2⟩, index := ht.index } rfl rfl rfl

theorem State.Sound.rejectReport (h : s.Sound) (n : Nat) : (s.rejectReport n).Sound := by
  have ht := h.bump .anchorReject
  unfold State.rejectReport
  dsimp only
  split
  · split
    · refine State.Sound.bump ?_ _
      exact ht.pru rfl (fun hn => by simp at hn)
    · exact ht.pru rfl id
  · exact ht

theorem State.Sound.judgeReport (h : s.Sound) (g : Bool) (b : Nat) : (s.judgeReport g b).Sound := by
  unfold State.judgeReport
  split
  · next hr => exact h.acceptReport (State.reportTest_drive hr) b
  · exact h.rejectReport _

theorem State.Sound.ownAddressReport (h : s.Sound) (p : Port) (ws : List Word) : (ownAddressReport p ws s).1.Sound := by
  unfold Machine.ownAddressReport
  split
  · exact h
  · unfold State.handleReport
    dsimp only
    refine State.Sound.arbitrate ?_
    split
    · exact (h.judgeReport _ _).seekReport _ _
    · exact h.judgeReport _ _

theorem State.Sound.formEstimate (h : s.Sound) : s.formEstimate.Sound :=
  h.of_core h.toCore.formEstimate (by simp) (by simp) (by simp)

theorem State.Sound.ownZoneSet (h : s.Sound) (p : Port) (ws : List Word) : (ownZoneSet p ws s).1.Sound := by
  unfold Machine.ownZoneSet
  split
  · unfold State.replaceZones answerOk
    dsimp only
    split
    · exact h.pru rfl id
    · split
      · exact State.Sound.formEstimate (h.pru rfl id)
      · exact State.Sound.dropAnchor (h.pru rfl id)
  · exact h

/-! ### Deck reports -/

theorem State.Sound.deckClamped (h : s.Sound) : s.deckClamped.Sound := by
  unfold State.deckClamped
  split
  · exact h
  · next hc =>
    have hw : s.spc.permit = false := by
      have := h.permit
      unfold State.PermitLaw at this
      simpa [hc] using this
    have hl : s.dsv.laser = false := by
      cases hl : s.dsv.laser
      · rfl
      · exact absurd (h.laser hl).1 hc
    have ht := State.Core.grantPermit h.toCore hw (d := { s.dsv with clamp := .clamped }) rfl rfl rfl rfl
    have hs : ({ s with dsv := { s.dsv with clamp := .clamped } } : State).grantPermit.Sound :=
      { ht with
        laser := fun hon => by simp [hl] at hon
        supply := by have := h.supply; unfold State.SupplyLaw at this ⊢; simpa using this }
    dsimp only
    split
    · next hd =>
      have hm : s.mve.active = none ∧ s.mve.activity = .none :=
        ⟨h.toCore.no_move (fun k => by rw [hd]; cases k <;> decide), h.toCore.no_activity (by rw [hd]; decide)⟩
      exact hs.setDrive_free (by simpa using hm.1) (Or.inl (by simpa using hm.2))
        (Or.inl (by simpa using h.unpowered (by rw [hd]; decide))) (Or.inl (by simpa using hl))
    · exact hs

/-- The drive is in none of the two states without an action, so that LOWV is deasserted (R159). -/
theorem State.unclampAction_drive (h : s.unclampAction ≠ .none) : s.dsv.drive ≠ .powerHold := by
  intro hd
  unfold State.unclampAction at h
  rw [hd] at h
  exact h rfl

/-- Without an emergency the laser is off (R159). -/
theorem State.Sound.unclamp_dark (h : s.Sound) (ha : s.unclampAction ≠ .emergency) : s.dsv.laser = false := by
  unfold State.unclampAction at ha
  split at ha
  · next hd => exact h.unlit (by rw [hd]; rfl)
  · next hd => exact h.unlit (by rw [hd]; rfl)
  · next hd => exact h.unlit (by rw [hd]; rfl)
  · next hd => exact h.unlit (by rw [hd]; rfl)
  · next hd => exact h.unlit (by rw [hd]; rfl)
  · exact absurd rfl ha

theorem State.Sound.deckUnclamped (h : s.Sound) {c : Clamp} (hc : c ≠ .clamped) : (s.deckUnclamped c).Sound := by
  have ht := State.Core.withdrawGranted h.toCore (d := { s.dsv with clamp := c }) rfl rfl rfl rfl (Or.inl hc)
  have hsup : ({ s with dsv := { s.dsv with clamp := c } } : State).withdrawGranted.SupplyLaw := by
    have := h.supply
    unfold State.SupplyLaw at this ⊢
    simpa using this
  have hdrive : ({ s with dsv := { s.dsv with clamp := c } } : State).withdrawGranted.dsv = { s.dsv with clamp := c } := by
    simp
  have hs : s.dsv.laser = false → ({ s with dsv := { s.dsv with clamp := c } } : State).withdrawGranted.Sound :=
    fun hl => { ht with laser := fun hon => by simp [hl] at hon, supply := hsup }
  unfold State.deckUnclamped
  dsimp only
  generalize ({ s with dsv := { s.dsv with clamp := c } } : State).withdrawGranted = u at ht hsup hdrive hs ⊢
  split
  · next ha =>
    exact ((hs (h.unclamp_dark (by rw [ha]; decide))).dropAnchor).clearMark true
  · next ha =>
    have hl := h.unclamp_dark (by rw [ha]; decide)
    have hp := h.unpowered (State.unclampAction_drive (by rw [ha]; decide))
    unfold State.quietUnclamp
    refine State.Sound.arbitrate (State.Sound.finishMove ?_ _ _ _)
    exact (hs hl).sledStop.endWork.setDrive_free (by simp [Mve.endMove]) (Or.inl (by simp))
      (Or.inl (by simp [hdrive, hp])) (Or.inl (by simp [hdrive, hl]))
  · next ha =>
    have hp := h.unpowered (State.unclampAction_drive (by rw [ha]; decide))
    have hf : ((u.latchFault .unclampSpinning).focusOpen.laserOff).Sound :=
      { (ht.latchFault _).focusOpen.laserOff (by simp [FocusLoop.emptied]) with
        laser := fun hon => by simp at hon
        supply := by unfold State.SupplyLaw at hsup ⊢; simpa using hsup }
    unfold State.unclampEmergency
    dsimp only
    refine State.Sound.arbitrate (State.Sound.finishMove ?_ _ _ _)
    exact hf.sledStop.endWork.noRecovery.setDrive_free (by simp [Mve.endMove]) (Or.inl (by simp))
      (Or.inl (by simp [hdrive, hp])) (Or.inl (by simp))

theorem State.Sound.ownDeckReport (h : s.Sound) (p : Port) (ws : List Word) : (ownDeckReport p ws s).1.Sound := by
  unfold Machine.ownDeckReport
  split
  · exact h
  · exact (h.raise _ _).deckClamped
  · next c hc _ => exact (h.raise _ _).deckUnclamped (fun he => by subst he; exact absurd rfl hc)

/-! ### CLEAR_FAULT -/

theorem State.Sound.clearRecord (h : s.Sound) : s.clearRecord.Sound := by
  unfold State.clearRecord
  split
  · exact h
  · have ht : ({ s with dsv := { s.dsv with record := none, lost := false } } : State).Sound :=
      { h with record := fun hn => (nomatch hn) }
    dsimp only
    split
    · next hd =>
      have hm : s.mve.active = none ∧ s.mve.activity = .none :=
        ⟨h.toCore.no_move (fun k => by rw [hd]; cases k <;> decide), h.toCore.no_activity (by rw [hd]; decide)⟩
      exact ht.setDrive_free hm.1 (Or.inl hm.2) (Or.inl (h.unpowered (by rw [hd]; decide)))
        (Or.inl (h.unlit (by rw [hd]; rfl)))
    · exact ht

end Sys2Proof.Machine
end

