-- ==== Sys2Proof/Tests/Slice0.lean ====
section
/-!
SUPPORT. Tests: ill-formed terms refused, frame bytes written out from R185, R190 and R195, worked cases of the spec, and
for each statement of Certificates/Slice0 with hypotheses a state and operands that meet them.
-/

namespace Sys2Proof.Tests

open Sys2Proof Sys2Proof.Machine

/-! ### Helpers -/

/-- A frame that carries a payload and nothing else. -/
def frame (ws : List Word) : Frame := { len := BitVec.ofNat 8 ws.length, words := ws }

/-- What a command's next state shows of a function; none where it gives no next state. -/
def after {α : Type} (i : Instr) (s : State) (g : State → α) : Option α :=
  match exec i s with
  | .next t => some (g t)
  | _ => none

/-- A sample with light, no error and no acceleration. -/
def bright : SampleInputs :=
  { a := 1000, b := 1000, c := 1000, d := 1000, e := 1024, f := 1024, rfe := 2000, ax := 0, az := 0 }

/-- The same sample with a dark RF envelope. -/
def dark : SampleInputs := { bright with rfe := 300 }

/-- The same sample without light. -/
def black : SampleInputs := { a := 0, b := 0, c := 0, d := 0, e := 0, f := 0, rfe := 2000, ax := 0, az := 0 }

/-- TRACKING with both loops CLOSED, anchored at track 5,000. -/
def playing : State :=
  { State.reset with
    focus := { FocusLoop.reset with state := .closed }
    track := { TrackLoop.reset with state := .closed }
    spc :=
      { Spc.reset with
        state := .locked, permit := true, da := 30000, duty := 117, target := targetPeriod 5000 1 Params.defaults.kclv
        tm := targetPeriod 5000 1 Params.defaults.kclv }
    slc := { Slc.reset with state := .trackingFollow, homed := true, followCount := 3, followSum := 900 }
    pru := { Pru.reset with trackIndex := 5000, anchor := some { block := 45000, estimated := 45000 } }
    dsv := { Dsv.reset with drive := .tracking, clamp := .clamped, laser := true } }

/-- A move of Port D, ticket 3. -/
def moveD (k : MoveKind) : ActiveMove :=
  { port := .portD, ticket := 3, kind := k, arg := none, urgent := false, chain := false }

/-- That move active, alone in the Arbiter. -/
def under (k : MoveKind) (d : DriveState) (ph : Phase) : State :=
  { playing with
    pru := { playing.pru with anchor := none }
    mve := { Mve.reset with active := some (moveD k), returnState := some .tracking, phase := ph }
    arb := { Arb.reset with queueD := [{ ticket := 3, kind := k, arg := none, chain := false }], source := .queueD }
    dsv := { playing.dsv with drive := d } }

/-- A START in a phase, at the home position with the loops OPEN. -/
def starting (ph : Phase) : State :=
  { under .start .starting ph with
    focus := .reset, track := .reset, slc := { Slc.reset with state := .atHome, homed := true }
    spc := { Spc.reset with state := .stopped, permit := true }, pru := { Pru.reset with trackIndex := -1000 } }

/-- IDLE with a clamped disc at rest. -/
def idle : State :=
  { State.reset with
    spc := { Spc.reset with state := .stopped, permit := true }
    dsv := { Dsv.reset with drive := .idle, clamp := .clamped } }

/-- The three-zone table of chapter 5. -/
def threeZones : ZoneTable :=
  { entries := [⟨0, 0, 2880⟩, ⟨90000, 8000, 3840⟩, ⟨180000, 14000, 4608⟩], endBlock := 323999 }

/-- One timer, running at a count. -/
def running (n : Nat) : Timer := { count := n, running := true }

/-! ### Well-formedness: ill-formed terms -/

/-- More words than LEN says (R185). -/
theorem test_wf_refuses_words_beyond_len : (Instr.flush .portP { len := 1, words := [0, 0] }).wf = false := by decide

/-- Words behind a LEN byte above 130, where the frame ends (R186). -/
theorem test_wf_refuses_words_after_long_len : (Instr.zoneSet .portP { len := 131, words := [0] }).wf = false := by
  decide

/-- A known code as an unknown one (R190). -/
theorem test_wf_refuses_known_code : (Instr.unknownCodeRequest .portD 0x20 (frame [])).wf = false := by decide

/-- A partial request, a LEN above 130 alone, and an event are well formed. -/
theorem test_wf_accepts : (Instr.submit .portP { len := 3, words := [0] }).wf = true ∧
    (Instr.getState .portD { len := 131, words := [] }).wf = true ∧ (Instr.hallEdge 20000).wf = true := by decide

/-! ### Frame bytes (R185, R190, R195), and the opcode table's words -/

/-- The table gives no row a bit, so no word spells a command. -/
theorem test_no_table_word : decodeTableWord 16 0x2003 = none := by decide

/-- SUBMIT, LEN 3: JUMP (05h) chained, argument -8. -/
theorem test_bytes_submit : decodeFrame .portP [0x20, 3, 0x05, 0x01, 0xFF, 0xFF, 0xFF, 0xF8] =
    some (.submit .portP (frame [0x0501, 0xFFFF, 0xFFF8])) := by decide

/-- ADDRESS_REPORT, LEN 3: block 120,040 (0001D4E8h), GOOD. -/
theorem test_bytes_address_report : decodeFrame .portP [0x40, 3, 0x00, 0x01, 0xD4, 0xE8, 0, 0] =
    some (.addressReport .portP (frame [0x0001, 0xD4E8, 0])) := by decide

/-- GET_RESULTS, LEN 0; what follows the frame is disregarded. -/
theorem test_bytes_get_results : decodeFrame .portD [0x32, 0, 0xAA, 0xBB] = some (.getResults .portD (frame [])) := by
  decide

/-- A code outside the catalogue. -/
theorem test_bytes_unknown : decodeFrame .portD [0x7F, 0] = some (.unknownCodeRequest .portD 0x7F (frame [])) := by
  decide

/-! ### Hypotheses met: the block, reset, samples -/

/-- A command at the front of the queue; an empty queue (StepRunsFrontCommand, IdleStepStartsPwmPeriod). -/
theorem test_hyps_queue : ({ playing with pending := [.hallEdge 5, .elapsedTimeTick] } : State).pending =
    [.hallEdge 5, .elapsedTimeTick] ∧ playing.pending = [] := by decide

/-- A well-formed request with its bytes (FramesDecodeBack). -/
theorem test_hyps_frames : (Instr.setParam .portD (frame [0x002C, 4])).wf = true ∧
    encodeFrame (.setParam .portD (frame [0x002C, 4])) = some (.portD, [0x39, 2, 0, 0x2C, 0, 4]) := by decide

/-- The parameters after reset lie in their ranges. -/
theorem test_defaults_in_range : Params.defaults.InRange :=
  ⟨fun q => by cases q <;> decide, by decide⟩

/-- A sound state in play with a command waiting, and its step (StepKeepsSound). -/
theorem test_hyps_sound_step : ({ playing with pending := [.elapsedTimeTick] } : State).Sound ∧
    ∃ t, step { playing with pending := [.elapsedTimeTick] } = .next t :=
  ⟨{ loops := by unfold State.LoopLaw; decide
     rest := by unfold State.RestLaw; decide
     dark := by unfold State.DarkLaw; decide
     permit := by unfold State.PermitLaw; decide
     duty := ⟨by decide, ⟨rfl, rfl⟩, by decide⟩
     work := ⟨fun m h => (by cases h), by decide, by decide⟩
     anchor := by unfold State.AnchorLaw; decide
     queues := by unfold Arb.QueueLaw; decide
     storeP := by unfold Pif.StoreLaw; decide
     storeD := by unfold Pif.StoreLaw; decide
     record := by unfold Dsv.RecordLaw; decide
     range := ⟨test_defaults_in_range, by unfold driveRange; decide, by unfold driveRange; decide,
       by unfold integRange; decide, by unfold integRange; decide, fun v h => (by cases h)⟩
     index := by unfold State.IndexLaw; decide
     laser := by unfold State.LaserLaw; decide
     supply := by unfold State.SupplyLaw; decide }, _, rfl⟩

/-- A command that is no request (PortSettingsOwned). -/
theorem test_hyps_settings : (∀ p c f, frameOf .elapsedTimeTick ≠ some (p, c, f)) ∧
    Instr.elapsedTimeTick ≠ .rstnAsserted ∧ Instr.elapsedTimeTick ≠ .rstnReleased ∧
    Instr.elapsedTimeTick ≠ .powerOn ∧ ∃ t, exec .elapsedTimeTick playing = .next t :=
  ⟨nofun, nofun, nofun, nofun, _, rfl⟩

/-- RSTN low, with LOWV deasserted and asserted; RSTN high (ResetHeldTakesNoEvent, ResetGivesAfterResetValues,
ReleaseUnderLowSupply). -/
theorem test_hyps_reset : let s : State := { playing with rstnLow := true }
    let t : State := { s with lowvPin := true }
    s.rstnLow = true ∧ s.lowvPin = false ∧ playing.rstnLow = false ∧ playing.lowvPin = false ∧ t.rstnLow = true ∧
      t.lowvPin = true ∧ frameOf (.getFault .portP (frame [])) = some (.portP, 0x36, frame []) := by decide

/-- A calm sample in play (SampleConvertsAndDerives, CalmSampleInPlay). -/
theorem test_hyps_calm_sample : let s := playing
    let x := bright
    let v := s.seen x
    let f := s.focus.compute s.prm v.fe v.az
    let r := s.track.compute s.prm v.te v.ax
    s.rstnLow = false ∧ s.Still ∧ s.Calm x ∧ s.mve.phase ≠ .measure ∧ s.focus.state = .closed ∧
      s.track.state = .closed ∧ s.slc.state = .trackingFollow ∧ s.slc.followCount < 65535 ∧
      s.dmn.defect = .watching ∧ s.prm.defLevel ≤ v.rfe ∧ s.prm.sumFloor ≤ v.sum ∧ 1 ≤ s.prm.flostN ∧
      f.drive ≠ -2048 ∧ f.drive ≠ 2047 ∧ r.drive ≠ -2048 ∧ r.drive ≠ 2047 := by
  unfold State.Still State.Calm State.seen; decide

/-- CLOSED loops (ClosedLoopsCompute), and the three clauses of a SEARCH sample (SearchSampleStepsOrPullsIn): a pull-in,
a step, and the last sweep's end. -/
theorem test_hyps_loops : let s (f : FocusLoop) (d : Dfe) : State := { starting .search with focus := f, dfe := d }
    let p := s { FocusLoop.reset with state := .search, prevFe := some 18 } { Dfe.reset with sum := 2880, fe := -35 }
    let q := s { FocusLoop.reset with state := .search } .reset
    let r := s { FocusLoop.reset with state := .search, ramp := .falling, drive := -1532, sweeps := 5 } .reset
    playing.focus.state = .closed ∧ playing.track.state = .closed ∧
      (p.focus.state = .search ∧ p.prm.sumPullin ≤ p.dfe.sum ∧ p.focus.prevFe = some 18 ∧ p.dfe.fe * 18 ≤ 0) ∧
      (q.focus.state = .search ∧ ¬q.prm.sumPullin ≤ q.dfe.sum ∧
        min (q.focus.drive + q.prm.searchStep) q.prm.searchSpan ≠ -(q.prm.searchSpan : Int)) ∧
      (r.focus.state = .search ∧ ¬r.prm.sumPullin ≤ r.dfe.sum ∧ r.focus.ramp ≠ .rising ∧
        max (r.focus.drive - r.prm.searchStep) (-(r.prm.searchSpan : Int)) = -(r.prm.searchSpan : Int) ∧
        r.prm.focusTries ≤ r.focus.sweeps + 1) := by decide

/-- A close test that closes at CLOSE_LEVEL, and ones that do not: TE beyond it, and focus HELD (ClosedLoopsCompute). -/
theorem test_hyps_close_test :
    let s (te : Int) : State :=
      { playing with track := { TrackLoop.reset with state := .closing }, dfe := { Dfe.reset with te := te } }
    (s (-256)).track.state = .closing ∧ (s (-256)).focus.state = .closed ∧
      ((s (-256)).dfe.te.natAbs : Int) ≤ (s (-256)).prm.closeLevel ∧
      ¬((s 257).dfe.te.natAbs : Int) ≤ (s 257).prm.closeLevel ∧ FocusState.held ≠ .closed := by decide

/-- A pull-in in START's search phase (PullInStartsSpinUp). -/
theorem test_hyps_pull_in :
    let s : State := { starting .search with focus := { FocusLoop.reset with state := .search, prevFe := some 18 } }
    let v := s.seen bright
    s.rstnLow = false ∧ s.Calm bright ∧ s.mve.active = some (moveD .start) ∧ s.mve.phase = .search ∧
      s.focus.state = .search ∧ s.focus.prevFe = some 18 ∧ v.fe * 18 ≤ 0 ∧ s.prm.sumPullin ≤ v.sum ∧
      s.track.state = .opened ∧ s.slc.state ≠ .trackingFollow ∧ s.spc.permit = true ∧
      (s.spc.state = .stopped ∨ s.spc.state = .rundown ∨ s.spc.state = .coast ∨ s.spc.state = .braking) ∧
      s.dmn.defect = .watching ∧ s.prm.defLevel ≤ v.rfe ∧ s.prm.sumFloor ≤ v.sum ∧ 1 ≤ s.prm.flostN ∧
      s.focus.drive ≠ -2048 ∧ s.focus.drive ≠ 2047 := by
  unfold State.Calm State.seen; decide

/-- The end of the last sweep in START's search phase (SearchFailureFaultsStart). -/
theorem test_hyps_search_failure :
    let s : State := { starting .search with
        focus := { FocusLoop.reset with state := .search, ramp := .falling, drive := -1532, sweeps := 5 } }
    let v := s.seen black
    s.rstnLow = false ∧ s.Calm black ∧ s.LoneMove (moveD .start) ∧ s.mve.phase = .search ∧
      s.dsv.drive = .starting ∧ s.dsv.record = none ∧ s.arb.mark = none ∧ s.pifD.older = none ∧
      s.focus.state = .search ∧ s.track.state = .opened ∧ s.slc.state ≠ .trackingFollow ∧ s.focus.ramp = .falling ∧
      s.focus.drive - s.prm.searchStep ≤ -(s.prm.searchSpan : Int) ∧ v.sum < s.prm.sumPullin ∧
      s.prm.focusTries ≤ s.focus.sweeps + 1 ∧ s.dmn.defect = .watching ∧ 1 ≤ s.prm.flostN := by
  unfold State.Calm State.seen State.LoneMove; decide

/-- The sample that completes a low run in play (DefectBeginsHold). -/
theorem test_hyps_defect : let s : State := { playing with dmn := { Dmn.reset with lowRun := 3 } }
    let v := s.seen dark
    let f := s.focus.compute s.prm v.fe v.az
    let r := s.track.compute s.prm v.te v.ax
    s.rstnLow = false ∧ s.Still ∧ s.Calm dark ∧ s.mve.phase ≠ .measure ∧ s.focus.state = .closed ∧
      s.track.state = .closed ∧ s.slc.state = .trackingFollow ∧ s.slc.followCount < 65535 ∧
      s.dmn.defect = .watching ∧ v.rfe < s.prm.defLevel ∧ s.prm.defOn ≤ s.dmn.lowRun + 1 ∧
      s.dmn.lossRun < s.prm.flostN ∧ f.drive ≠ -2048 ∧ f.drive ≠ 2047 ∧ r.drive ≠ -2048 ∧ r.drive ≠ 2047 := by
  unfold State.Still State.Calm State.seen; decide

/-- A hold that reaches DEF_MAX (DefectHoldEndsAtMaximum). -/
theorem test_hyps_forced_end :
    let s : State := { playing with
        focus := { FocusLoop.reset with state := .held }, track := { TrackLoop.reset with state := .held }
        dmn := { Dmn.reset with defect := .holding, holdLength := 1023 } }
    let v := s.seen dark
    s.rstnLow = false ∧ s.Still ∧ s.Calm dark ∧ s.mve.phase ≠ .measure ∧ s.focus.state = .held ∧
      s.track.state = .held ∧ s.dmn.defect = .holding ∧ v.rfe < s.prm.defLevel ∧
      s.prm.defMax ≤ s.dmn.holdLength + 1 ∧ 1 ≤ s.prm.defOff ∧ s.prm.sumFloor ≤ v.sum ∧ 1 ≤ s.prm.flostN ∧
      s.focus.drive ≠ -2048 ∧ s.focus.drive ≠ 2047 ∧ s.track.drive ≠ -2048 ∧ s.track.drive ≠ 2047 := by
  unfold State.Still State.Calm State.seen; decide

/-- The cases of the shock judgement, with the end code -512 and a remaining time of 0 and of 1 (ShockWindowByTable). -/
theorem test_hyps_shock : let s (ax : Int) (w : Bool) (n : Nat) : State :=
      { playing with dfe := { Dfe.reset with ax := ax }, dmn := { Dmn.reset with window := w, remaining := n } }
    (s (-512) false 0).dfe.ax = -512 ∧ playing.prm.shockLevel ≤ (s (-512) false 0).dfe.ax.natAbs ∧
      playing.prm.shockLevel ≤ (s 160 true 0).dfe.ax.natAbs ∧
      ¬playing.prm.shockLevel ≤ (s 159 true 1).dfe.ax.natAbs ∧
      ¬playing.prm.shockLevel ≤ (s 159 true 0).dfe.az.natAbs ∧ (s 159 true 1).dmn.window = true ∧
      0 < (s 159 true 1).dmn.remaining ∧ (s 159 true 0).dmn.remaining = 0 := by decide

/-- A crossing in play (CrossingStepsIndexAndSlips). -/
theorem test_hyps_crossing : playing.NothingWaits ∧ playing.mve.phase = .none ∧ playing.mve.holdJump = .none ∧
    playing.pru.anchor.isSome = true ∧ -2048 ≤ playing.pru.trackIndex + 1 ∧ playing.pru.trackIndex + 1 ≤ 21999 ∧
    playing.pru.zones.startBlock (playing.pru.trackIndex + 1) ≠ none ∧
    playing.dmn.slips + 1 < playing.prm.slipBurst := by
  unfold State.NothingWaits; decide

/-- A jump of 5 tracks at its crossings 2, 3 and 5, a coarse phase below and at its count, and a holding jump
(CrossingStepsIndexAndSlips). -/
theorem test_hyps_crossing_counts :
    let j (n : Nat) : State :=
      { under .jump .moving .jump with
        track := { TrackLoop.reset with state := .jumping, kick := .kick }
        mve := { (under .jump .moving .jump).mve with jumpSize := 5, crossings := n } }
    let c (n : Nat) : State :=
      { under .seekTrack .moving .coarse with
        track := .reset, mve := { (under .seekTrack .moving .coarse).mve with coarseGoal := 100, crossings := n } }
    let h : State := { playing with
        track := { TrackLoop.reset with state := .jumping }, dsv := { playing.dsv with drive := .holding }
        mve := { Mve.reset with holdJump := .jumping } }
    (j 1).mve.active.isSome = true ∧ (j 1).mve.phase = .jump ∧ (j 1).track.state = .jumping ∧ (j 1).lensTaken = true ∧
      (j 1).mve.crossings + 1 ≠ (j 1).mve.jumpSize ∧
      ¬(1 < (j 1).mve.jumpSize ∧ (j 1).mve.crossings + 1 = ((j 1).mve.jumpSize + 1) / 2) ∧
      (1 < (j 2).mve.jumpSize ∧ (j 2).mve.crossings + 1 = ((j 2).mve.jumpSize + 1) / 2) ∧
      (j 2).mve.crossings + 1 ≠ (j 2).mve.jumpSize ∧ (j 2).track.kick = .kick ∧
      (j 4).mve.crossings + 1 = (j 4).mve.jumpSize ∧ (c 98).mve.active.isSome = true ∧ (c 98).mve.phase = .coarse ∧
      (c 98).track.state = .opened ∧ (c 98).mve.crossings + 1 ≠ (c 98).mve.coarseGoal ∧
      (c 99).mve.crossings + 1 = (c 99).mve.coarseGoal ∧ (c 99).lensTaken = true ∧ h.mve.phase = .none ∧
      h.mve.holdJump = .jumping ∧ h.track.state = .jumping ∧ h.lensTaken = true := by decide

/-! ### Hypotheses met: Hall edges, ticks, lines -/

/-- A LOCKED spindle, and its three clauses: an edge on the target, one outside, and the sixth outside
(HallEdgeInLocked). -/
theorem test_hyps_hall_locked : let s : State := { playing with spc := { playing.spc with edgeTimer := 0 } }
    let u : State := { s with spc := { s.spc with outRun := 5 } }
    let period := targetPeriod s.pru.trackIndex s.prm.sf s.prm.kclv
    s.rstnLow = false ∧ s.Still ∧ s.spc.state = .locked ∧ s.spc.edges + 1 < 6 ∧
      ((min (s.spc.edgeTimer + period) 65535 : Nat) - period : Int).natAbs ≤ period * s.prm.lockWin / 128 ∧
      period * s.prm.lockWin / 128 < ((min (s.spc.edgeTimer + 10000) 65535 : Nat) - period : Int).natAbs ∧
      s.spc.outRun + 1 < 6 ∧ u.Still ∧ u.spc.state = .locked ∧ 6 ≤ u.spc.outRun + 1 := by
  unfold State.Still; decide

/-- The twelfth edge in START's spin-up (TwelfthEdgeLocksAndCloses). -/
theorem test_hyps_twelfth_edge :
    let s : State := { starting .spinUp with
        focus := { FocusLoop.reset with state := .closed }
        spc := { Spc.reset with state := .locking, permit := true, inRun := 11, edgeTimer := 0 } }
    let period := targetPeriod s.pru.trackIndex s.prm.sf s.prm.kclv
    s.rstnLow = false ∧ s.mve.active = some (moveD .start) ∧ s.mve.phase = .spinUp ∧ s.lensTaken = true ∧
      s.track.state = .opened ∧ s.spc.state = .locking ∧ s.spc.edges + 1 < 6 ∧ s.spc.inRun = 11 ∧
      ((min (s.spc.edgeTimer + 20000) 65535 : Nat) - period : Int).natAbs ≤ period * s.prm.lockWin / 256 := by decide

/-- The sixth edge of a LOCKED spindle in TRACKING, at the wide window's end (SixthEdgeIsRevolution). -/
theorem test_hyps_sixth_edge : let s : State := { playing with spc := { playing.spc with edges := 5, edgeTimer := 0 } }
    let period := targetPeriod s.pru.trackIndex s.prm.sf s.prm.kclv
    s.rstnLow = false ∧ s.Still ∧ s.spc.state = .locked ∧ s.spc.edges = 5 ∧ s.dsv.drive = .tracking ∧
      s.track.state = .closed ∧ s.mve.active = none ∧ s.mve.phase = .none ∧ s.slc.state = .trackingFollow ∧
      0 < s.slc.followCount ∧ s.homePin = false ∧ s.pru.anchor = some { block := 45000, estimated := 45000 } ∧
      -2048 ≤ s.pru.trackIndex ∧ s.pru.trackIndex < 21999 ∧
      s.pru.zones.startBlock (s.pru.trackIndex + 1) = some 45009 ∧
      ((min (s.spc.edgeTimer + (period + period * s.prm.lockWin / 128)) 65535 : Nat) - period : Int).natAbs ≤
        period * s.prm.lockWin / 128 := by
  unfold State.Still; decide

/-- The clauses of the coast order (CoastOrderTaken). -/
theorem test_hyps_coast : let s (c : SpindleState) : State := { playing with spc := { playing.spc with state := c } }
    (s .locked).spc.state = .locked ∧ (s .coast).spc.state = .coast ∧ (s .coast).spc.permit = true ∧
      (s .rundown).spc.state = .rundown ∧ (s .rundown).spc.permit = true := by decide

/-- A close that a close phase waits for, and one that nothing waits for (CloseTimeoutRetries). -/
theorem test_hyps_close_timeout : let t : TrackLoop := { TrackLoop.reset with state := .closing, closeTimer := 49 }
    let s : State := { under .play .moving .close with track := t }
    let u : State := { under .play .moving .coarse with track := t }
    s.rstnLow = false ∧ s.Still ∧ s.track.state = .closing ∧ s.prm.closeTo ≤ s.track.closeTimer + 1 ∧
      s.mve.settling = false ∧ s.mve.phase = .close ∧ s.mve.closeTries < s.prm.trackTries ∧ s.lensTaken = true ∧
      u.rstnLow = false ∧ u.Still ∧ u.track.state = .closing ∧ u.prm.closeTo ≤ u.track.closeTimer + 1 ∧
      u.closeAwaited = false := by
  unfold State.Still; decide

/-- A spin timer at its limit in TRACKING (SpinTimeoutStopsDrive). -/
theorem test_hyps_spin_timeout : let s : State := { playing with
      spc := { playing.spc with state := .locking, spinTimer := running (Params.defaults.spinTo - 1) } }
    s.rstnLow = false ∧ s.NothingWaits ∧ s.mve.active = none ∧ s.spc.permit = true ∧
      (s.spc.state = .accel ∨ s.spc.state = .locking) ∧ s.spc.spinTimer.running = true ∧
      s.prm.spinTo ≤ s.spc.spinTimer.count + 1 ∧ s.dsv.drive ≠ .faulted ∧ s.dsv.drive ≠ .powerHold ∧
      s.dsv.record = none := by
  unfold State.NothingWaits; decide

/-- An overload run that this sample completes, one that it does not, and a drive at its limit (SpinTimeoutStopsDrive). -/
theorem test_hyps_overload :
    let s (n : Nat) : State := { playing with
        dmn := { Dmn.reset with overloadRun := n }, track := { playing.track with drive := 2047 } }
    (s 0).NothingWaits ∧ (s 0).mve.active = none ∧ (s 0).spc.permit = true ∧ (s 0).dsv.drive ≠ .faulted ∧
      (s 0).dsv.drive ≠ .powerHold ∧ (s 0).dsv.record = none ∧ (s 0).spc.state = .locked ∧
      (s 44099).prm.overloadN ≤ min ((s 44099).dmn.overloadRun + 1) 65535 ∧
      min ((s 44098).dmn.overloadRun + 1) 65535 < (s 44098).prm.overloadN ∧
      ((s 0).track.drive = -2048 ∨ (s 0).track.drive = 2047) ∧
      ((s 0).track.state = .closed ∨ (s 0).track.state = .held) := by
  unfold State.NothingWaits; decide

/-- The 200th silent tick, with no move active and in STOP's spin-down (SpindleStoppedEndsStop). -/
theorem test_hyps_spindle_stopped :
    let c : Spc := { Spc.reset with state := .rundown, silence := 199 }
    let s : State := { idle with spc := c }
    let u : State := { under .stop .stopping .spinDown with spc := c }
    s.rstnLow = false ∧ (s.spc.state = .braking ∨ s.spc.state = .rundown ∨ s.spc.state = .coast) ∧
      200 ≤ s.spc.silence + 1 ∧ s.mve.active = none ∧ s.Still ∧ u.spc.state = .rundown ∧ u.spc.silence = 199 ∧
      u.LoneMove (moveD .stop) ∧ u.mve.phase = .spinDown ∧ u.dsv.drive = .stopping ∧ u.pru.anchor = none ∧
      u.arb.mark = none ∧ u.pifD.older = none := by
  unfold State.Still State.LoneMove; decide

/-- A homing timer at its limit, with no move active and in START's homing phase (SledStuckFaultsHoming). -/
theorem test_hyps_sled_stuck :
    let c : Slc := { Slc.reset with state := .homing, homingTimer := running (Params.defaults.sledHomeTo - 1) }
    let s : State := { idle with slc := c }
    let u : State := { starting .homing with slc := c }
    s.rstnLow = false ∧ s.slc.state = .homing ∧ s.slc.homingTimer.running = true ∧
      s.prm.sledHomeTo ≤ s.slc.homingTimer.count + 1 ∧ s.mve.active = none ∧ s.Still ∧ u.slc = s.slc ∧
      u.LoneMove (moveD .start) ∧ u.mve.phase = .homing ∧ u.dsv.drive = .starting ∧ u.dsv.record = none ∧
      u.arb.mark = none ∧ u.pifD.older = none := by
  unfold State.Still State.LoneMove; decide

/-- A jump, a coarse phase and a measurement at their limits (TimedOutPhasesClose). -/
theorem test_hyps_phase_timeouts :
    let s (k : MoveKind) (ph : Phase) : State :=
      { under k .moving ph with
        track := { TrackLoop.reset with state := .jumping }
        mve := { (under k .moving ph).mve with
                 jumpSize := 8, jumpTimer := running 12, seekTimer := running (Params.defaults.seekTo - 1)
                 gapTimer := running 999 } }
    (s .jump .jump).mve.active = some (moveD .jump) ∧ (s .jump .jump).lensTaken = true ∧
      (s .jump .jump).track.state ≠ .closing ∧ (s .jump .jump).mve.jumpTimer.running = true ∧
      5 + (s .jump .jump).mve.jumpSize ≤ (s .jump .jump).mve.jumpTimer.count + 1 ∧
      (s .seekTrack .coarse).mve.phase = .coarse ∧ (s .seekTrack .coarse).mve.seekTimer.running = true ∧
      (s .seekTrack .coarse).prm.seekTo ≤ (s .seekTrack .coarse).mve.seekTimer.count + 1 ∧
      (s .balance .measure).mve.phase = .measure ∧ (s .balance .measure).mve.gapTimer.running = true ∧
      1000 ≤ (s .balance .measure).mve.gapTimer.count + 1 := by decide

/-- A standing hold, and a holding jump at its limit (HoldingJumpStartsAndTimesOut). -/
theorem test_hyps_holding :
    let s : State := { playing with dsv := { playing.dsv with drive := .holding } }
    let u : State := { s with
        track := { TrackLoop.reset with state := .jumping }
        mve := { Mve.reset with holdJump := .jumping, holdTimer := running 5 } }
    s.lensTaken = true ∧ s.dsv.drive = .holding ∧ s.mve.active = none ∧ s.mve.phase = .none ∧
      s.mve.holdJump = .none ∧ s.mve.activity = .none ∧ s.track.state = .closed ∧ u.lensTaken = true ∧
      u.rstnLow = false ∧ u.mve.holdJump = .jumping ∧ u.mve.holdTimer.running = true ∧
      6 ≤ u.mve.holdTimer.count + 1 ∧ u.track.state = .jumping := by decide

/-- A loss run that a dark sample in HOLDING completes with a holding jump in flight, and the close of a recovery
(HoldingJumpStartsAndTimesOut). -/
theorem test_hyps_recovery :
    let s : State := { playing with
        dsv := { playing.dsv with drive := .holding }, mve := { Mve.reset with holdJump := .jumping }
        dmn := { Dmn.reset with lossRun := 31 } }
    let u : State := { playing with
        dsv := { playing.dsv with drive := .recovering, recovery := .tracking }
        mve := { Mve.reset with activity := .close } }
    s.lensTaken = true ∧ s.dsv.drive = .holding ∧ s.mve.active = none ∧ s.dfe.sum < s.prm.sumFloor ∧
      s.prm.flostN ≤ s.dmn.lossRun + 1 ∧ u.lensTaken = true ∧ u.dsv.drive = .recovering ∧ u.mve.activity = .close ∧
      u.mve.settling = false ∧ u.mve.phase = .none ∧ u.mve.holdJump = .none := by decide

/-- An address wait at its limit, with a correction left and with none (AddressWaitExpires). -/
theorem test_hyps_address_wait :
    let s (n : Nat) : State :=
      { under .seekBlock .moving .addressWait with
        mve := { (under .seekBlock .moving .addressWait).mve with
                 target := 45050, corrections := n, waitLimit := 120, waitTimer := running 119 }
        pru := { Pru.reset with trackIndex := 4997 } }
    let aim := max ((s 0).mve.target - (s 0).prm.seekWin / 2) (s 0).pru.zones.firstBlock
    (s 0).rstnLow = false ∧ (s 0).mve.phase = .addressWait ∧ (s 0).mve.waitTimer.running = true ∧
      (s 0).mve.waitLimit ≤ (s 0).mve.waitTimer.count + 1 ∧ (s 0).mve.active = some (moveD .seekBlock) ∧
      (s 0).mve.corrections < (s 0).prm.seekCorr ∧ (s 0).pru.zones.inRange (s 0).mve.target = true ∧
      (s 0).pru.zones.trackOf aim = some (s 0).pru.trackIndex ∧
      (s (s 0).prm.seekCorr).LoneMove (moveD .seekBlock) ∧ (s 9).dsv.drive = .moving ∧
      (s 9).mve.returnState = some .tracking ∧ (s 9).pifD.older = none := by
  unfold State.LoneMove; decide

/-- A window with time left and without; a nudge at its length and below it; a move active and none
(CountdownsAndNudge, MillisecondTickAdvancesTimers). -/
theorem test_hyps_countdowns :
    let s : State := { under .jump .moving .jump with
        dmn := { Dmn.reset with window := true, remaining := 1 }
        slc := { Slc.reset with nudgeTimer := running 5, nudgeLength := 6 } }
    s.rstnLow = false ∧ s.dmn.window = true ∧ 0 < s.dmn.remaining ∧ s.mve.active.isSome = true ∧
      s.slc.nudgeTimer.running = true ∧ s.slc.nudgeLength ≤ s.slc.nudgeTimer.count + 1 ∧
      playing.dmn.window = false ∧ playing.mve.active = none ∧ playing.slc.nudgeTimer.running = false := by decide

/-- The spindle's silence below 200 in COAST and in LOCKED (MillisecondTickAdvancesTimers). -/
theorem test_hyps_silence : let s : State := { playing with spc := { playing.spc with state := .coast, silence := 199 } }
    s.rstnLow = false ∧ s.spc.state = .coast ∧ s.spc.silence < 200 ∧ playing.spc.state = .locked := by decide

/-- HOME reached in START's homing phase, and in another sled state (HomeSwitchActs). -/
theorem test_hyps_home : let s : State := { starting .homing with slc := { Slc.reset with state := .homing } }
    s.rstnLow = false ∧ s.homePin = false ∧ s.slc.state = .homing ∧ s.pru.anchor = none ∧ s.dsv.laser = true ∧
      s.mve.active = some (moveD .start) ∧ (moveD .start).kind = .start ∧ s.mve.phase = .homing ∧
      playing.homePin = false ∧ playing.slc.state ≠ .homing ∧ playing.Still ∧
      ({ playing with homePin := true } : State).homePin = true := by
  unfold State.Still; decide

/-- A supply that goes low with a move active, and one that returns (LowSupplyHolds, LowSupplyReleased). -/
theorem test_hyps_supply : let s := under .jump .moving .jump
    let u : State := { idle with
        lowvPin := true, dsv := { idle.dsv with drive := .powerHold, lowv := true }
        spc := { Spc.reset with state := .coast } }
    s.rstnLow = false ∧ s.lowvPin = false ∧ s.LoneMove (moveD .jump) ∧ s.pifD.older = none ∧
      playing.mve.active = none ∧ u.rstnLow = false ∧ u.lowvPin = true ∧ u.NothingWaits ∧
      u.dsv.drive = .powerHold ∧ u.pru.anchor = none ∧ u.arb.mark = none := by
  unfold State.LoneMove State.NothingWaits; decide

/-- A port in each phase: released, awaiting, with a partial frame, and responding with its last byte unsent and with all
sent; RSTN low (SelectLineFrames). -/
theorem test_hyps_select :
    let r : Response := { status := .ok, payload := [7] }
    let s (h : PortPhase) : State := { playing with pifP := { Pif.reset with phase := h, response := some r } }
    ((s .partialFrame).pif .portP).phase ≠ .released ∧ (∀ k, ((s .partialFrame).pif .portP).phase ≠ .responding k) ∧
      ((s (.responding 5)).pif .portP).phase = .responding 5 ∧ ((s (.responding 6)).pif .portP).phase = .responding 6 ∧
      ((s (.responding 0)).pif .portP).response = some r ∧ playing.rstnLow = false ∧
      ((s .awaiting).pif .portP).phase = .awaiting ∧ (playing.pif .portP).phase = .released ∧
      ({ playing with rstnLow := true } : State).rstnLow = true :=
  ⟨nofun, nofun, rfl, rfl, rfl, rfl, rfl, rfl, rfl⟩

/-! ### Hypotheses met: requests -/

/-- A port that listens and ones that do not; a LEN of 131, a partial frame, an unknown code, a request foreign to its
port, and a wrong length (PortJudgesRequests). -/
theorem test_hyps_port : let s := playing
    let deaf (h : PortPhase) : State := { s with pifP := { Pif.reset with phase := h } }
    s.listens .portP = true ∧ (deaf .partialFrame).listens .portP = false ∧
      (deaf .partialFrame).pifP.phase = .partialFrame ∧ (deaf (.responding 5)).pifP.phase = .responding 5 ∧
      (deaf (.responding 5)).rstnLow = false ∧
      ({ deaf (.responding 5) with rstnLow := true } : State).listens .portP = false ∧
      frameOf (.getState .portP { len := 131, words := [] }) = some (.portP, 0x30, { len := 131, words := [] }) ∧
      130 < (131 : Byte).toNat ∧ frameOf (.mark .portP { len := 2, words := [0] }) =
        some (.portP, 0x41, { len := 2, words := [0] }) ∧ knownCode 0x7F = false ∧
      frameOf (.unknownCodeRequest .portD 0x7F (frame [])) = some (.portD, 0x7F, frame []) ∧
      frameOf (.setPolicy .portP (frame [1])) = some (.portP, 0x51, frame [1]) ∧
      (0x51 : Byte).toNat ∈ [0x39, 0x50, 0x51] ∧ frameOf (.getFault .portD (frame [1])) =
        some (.portD, 0x36, frame [1]) ∧ ((0x36 : Byte).toNat, 0) ∈ requestLengths ∧ (frame [1]).len.toNat ≠ 0 := by
  decide

/-- A JUMP of 65 tracks, above its range, submitted behind an active move (SubmitJoinsQueue). -/
theorem test_hyps_submit : let s := under .jump .moving .jump
    let f := frame [0x0501, 0, 65]
    s.listens .portP = true ∧ Carries f [0x0501, 0, 65] ∧
      MoveKind.ofCode (Word.hi (0x0501 : Word)).toNat = some .jump ∧ (0x0501 : Word).getLsbD 1 = false ∧
      ¬(Port.portP = .portD ∧ MoveKind.jump = .resumeMark) ∧ (s.queueOf .portP).length < 4 ∧
      s.pickupFree = false := by
  unfold Carries; decide

/-- The clauses of SubmitRefusedInOrder: kind code 10, an urgent PARK on Port P and a RESUME_MARK on Port D, an urgent
JUMP, an occupied slot, and a full queue. -/
theorem test_hyps_submit_refused :
    let e : Entry := { ticket := 0, kind := .play, arg := none, chain := false }
    let s : State := { playing with
        arb := { Arb.reset with urgent := some e, queueD := [e, e, e, e] } }
    s.listens .portP = true ∧ s.listens .portD = true ∧ Carries (frame [0x0A00, 0, 0]) [0x0A00, 0, 0] ∧
      10 ≤ (Word.hi (0x0A00 : Word)).toNat ∧ MoveKind.ofCode (Word.hi (0x0202 : Word)).toNat = some .park ∧
      (0x0202 : Word).getLsbD 1 = true ∧ MoveKind.ofCode (Word.hi (0x0800 : Word)).toNat = some .resumeMark ∧
      MoveKind.ofCode (Word.hi (0x0502 : Word)).toNat = some .jump ∧ (0x0502 : Word).getLsbD 1 = true ∧
      s.arb.urgent ≠ none ∧ MoveKind.ofCode (Word.hi (0x0300 : Word)).toNat = some .play ∧
      (0x0300 : Word).getLsbD 1 = false ∧ 4 ≤ (s.queueOf .portD).length := by
  unfold Carries; decide

/-- A JUMP of -64 tracks granted at its arrival (SubmitJumpGranted). -/
theorem test_hyps_jump_granted : let s := playing
    let d : Int := (DWord.ofWords (0xFFFF : Word) (0xFFC0 : Word)).toInt
    s.listens .portP = true ∧ Carries (frame [0x0500, 0xFFFF, 0xFFC0]) [0x0500, 0xFFFF, 0xFFC0] ∧
      Word.hi (0x0500 : Word) = 5 ∧ (0x0500 : Word).getLsbD 1 = false ∧ d = -64 ∧ s.NothingWaits ∧
      s.arb.urgentWaiting = false ∧ s.pickupFree = true ∧ s.dsv.drive = .tracking ∧ s.lensTaken = true ∧
      s.track.state = .closed ∧ ¬(s.pifP.mode = .holdOff ∧ s.pifP.fill = 2) ∧ s.arb.claim = .none := by
  unfold Carries State.NothingWaits; decide

/-- An active JUMP of Port P and an urgent STOP (UrgentStopPreempts). -/
theorem test_hyps_preempt :
    let m : ActiveMove := { port := .portP, ticket := 1, kind := .jump, arg := some 8, urgent := false, chain := false }
    let e : Entry := { ticket := 1, kind := .jump, arg := some 8, chain := false }
    let s : State := { under .jump .moving .jump with
        mve := { (under .jump .moving .jump).mve with active := some m }
        arb := { Arb.reset with queueP := [e], source := .queueP } }
    s.listens .portD = true ∧ Carries (frame [0x0102, 0, 0]) [0x0102, 0, 0] ∧ Word.hi (0x0102 : Word) = 1 ∧
      (0x0102 : Word).getLsbD 1 = true ∧ s.arb.urgent = none ∧ s.arb.source = .queueP ∧ s.arb.queueP = [e] ∧
      s.arb.queueD = [] ∧ s.mve.active = some m ∧ m.port = .portP ∧ m.kind = .jump ∧ m.urgent = false ∧
      s.dsv.drive = .moving ∧ s.mve.returnState = some .tracking ∧ s.mve.holdJump = .none ∧
      s.mve.activity = .none ∧ s.spc.permit = true ∧ s.spc.state = .locked ∧ s.pifP.older = none := by
  unfold Carries; decide

/-- A result record. -/
def result : Result :=
  { port := .portP, ticket := 1, kind := .play, urgent := false, chained := false, outcome := .done, trackIndex := 0
    anchorBlock := none, corrections := 0, elapsed := 0, last := true, measured := none }

/-- The clauses of ChoiceByUrgencyClaimAndPolicy: a waiting urgent entry, both heads eligible with each claim, and a full
store in HOLD_OFF on one port and on both. -/
theorem test_hyps_choice :
    let e : Entry := { ticket := 1, kind := .play, arg := none, chain := false }
    let s (c : Claim) (v : Policy) : State :=
      { playing with arb := { Arb.reset with queueP := [e], queueD := [e], claim := c, policy := v, run := 3 } }
    let u : State := { playing with
        arb := { Arb.reset with queueP := [e], queueD := [e], urgent := some e, urgentWaiting := true } }
    let full : Pif := { Pif.reset with older := some result, newer := some result }
    (u.arb.urgentWaiting = true ∧ u.arb.urgent = some e) ∧
      (s .none .playFirst).arb.urgentWaiting = false ∧
      ¬(playing.pifP.mode = .holdOff ∧ playing.pifP.older.isSome = true ∧ playing.pifP.newer.isSome = true) ∧
      (s .none .playFirst).arb.claim = .none ∧ (s .none .deckFirst).arb.policy ≠ .playFirst ∧
      (s .queueP .deckFirst).arb.run < 4 ∧ (s .queueP .deckStrong).arb.policy = .deckStrong ∧
      (s .queueD .playFirst).arb.claim = .queueD ∧ full.mode = .holdOff ∧ full.older.isSome = true ∧
      full.newer.isSome = true := by decide

/-- A FLUSH behind an active move, and one that aborts it (FlushRemovesWaiting). -/
theorem test_hyps_flush : let s : State := { under .jump .moving .jump with
      arb := { (under .jump .moving .jump).arb with
               queueP := [{ ticket := 0, kind := .play, arg := none, chain := true }], claim := .queueP } }
    let u := under .jump .moving .jump
    s.listens .portP = true ∧ Carries (frame [0]) [0] ∧ (0 : Word).getLsbD 0 = false ∧ s.pickupFree = false ∧
      u.listens .portD = true ∧ Carries (frame [1]) [1] ∧ (1 : Word).getLsbD 0 = true ∧ u.LoneMove (moveD .jump) ∧
      u.arb.urgentWaiting = false ∧ u.dsv.drive = .moving ∧ u.mve.returnState = some .tracking ∧
      u.lensTaken = true ∧ u.pifD.older = none := by
  unfold Carries State.LoneMove; decide

/-- RESET_PORT of Port P beside a move of Port D, of Port D beside a move of Port P with an urgent entry that waits, and of
Port D that owns a jump (ResetPortReturnsPort). -/
theorem test_hyps_reset_port : let s := under .jump .moving .jump
    let e : Entry := { ticket := 1, kind := .jump, arg := some 8, chain := false }
    let u : State := { s with
        arb := { Arb.reset with queueP := [e], source := .queueP, urgent := some e, urgentWaiting := true } }
    s.listens .portP = true ∧ Carries (frame []) [] ∧ s.ownsActive .portP = false ∧ s.pickupFree = false ∧
      u.listens .portD = true ∧ u.ownsActive .portD = false ∧ u.pickupFree = false ∧ u.arb.urgentWaiting = true ∧
      s.listens .portD = true ∧ s.LoneMove (moveD .jump) ∧ (moveD .jump).kind = .jump ∧ s.arb.urgentWaiting = false ∧
      s.dsv.drive = .moving ∧ s.mve.returnState = some .tracking ∧ s.lensTaken = true := by
  unfold Carries State.LoneMove; decide

/-- The codes of the sets and the first ones outside (PolicyAndModeWritten, StateAndParamRead). -/
theorem test_hyps_codes : playing.listens .portD = true ∧ (∀ w : Fin 9, Carries (frame [.ofFin (w.castLE (by decide))])
      [.ofFin (w.castLE (by decide))]) ∧
    Policy.ofCode (2 : Word).toNat = some .deckStrong ∧ 3 ≤ (3 : Word).toNat ∧ 2 ≤ (2 : Word).toNat ∧
    8 ≤ (8 : Word).toNat ∧ (BitVec.ofNat 16 (ParamId.code .ofsA) : Word).toNat = ParamId.code .ofsA := by
  unfold Carries; decide

/-- An identifier outside the table (StateAndParamRead, ParameterWritten). -/
theorem test_hyps_no_param (q : ParamId) : (0xFFFF : Word).toNat ≠ ParamId.code q := by cases q <;> decide

/-- A mark within ANCHOR_TOL, one just outside, one without an anchor, and one outside the table (MarkSetAndCleared). -/
theorem test_hyps_mark : let s := playing
    let z : State := { s with pru := { s.pru with zones := { ZoneTable.default with endBlock := 100000 } } }
    s.listens .portP = true ∧ Carries (frame [0, 45000]) [0, 45000] ∧ Carries (frame []) [] ∧
      s.pru.anchor.isSome = true ∧
      (DWord.ofWords (0 : Word) (45000 : Word)).toNat = 45000 ∧
      s.pru.zones.trackOf (45000 + 9 * s.prm.anchorTol) = some (s.pru.trackIndex + s.prm.anchorTol) ∧
      (s.pru.trackIndex + s.prm.anchorTol - s.pru.trackIndex).natAbs ≤ s.prm.anchorTol ∧
      s.pru.zones.trackOf (45000 + 9 * (s.prm.anchorTol + 1)) = some (s.pru.trackIndex + s.prm.anchorTol + 1) ∧
      s.prm.anchorTol < (s.pru.trackIndex + s.prm.anchorTol + 1 - s.pru.trackIndex).natAbs ∧
      (starting .search).pru.anchor = none ∧ z.pru.zones.trackOf 100001 = none := by
  unfold Carries; decide

/-- A store that is not full, and one that is full in HOLD_OFF (ResultsReadAndEmptied). -/
theorem test_hyps_results : let v : Pif := { Pif.reset with older := some result, newer := some result }
    playing.listens .portP = true ∧ Carries (frame []) [] ∧
      ¬(playing.pifP.mode = .holdOff ∧ (playing.pifP.older.toList ++ playing.pifP.newer.toList).length = 2) ∧
      v.mode = .holdOff ∧ (v.older.toList ++ v.newer.toList).length = 2 := by
  unfold Carries; decide

/-- The three clauses of RecordsRead, a clear of the counters, a difference of 65,535 and one of 65,536, and masks
(RecordsRead, CountersReadAndCleared, NoticesReadAndMasked). -/
theorem test_hyps_reads :
    let r : FaultRecord := { kind := .spinFail, drive := .tracking, active := none, trackIndex := 0, period := 0 }
    let s : State := { playing with dsv := { playing.dsv with record := some r } }
    playing.listens .portD = true ∧ Carries (frame []) [] ∧ playing.dsv.record = none ∧ s.dsv.record = some r ∧
      s.listens .portD = true ∧ Carries (frame [1]) [1] ∧ (1 : Word).getLsbD 0 = true ∧
      ((65535 : BitVec 32) - 0).toNat ≤ 65535 ∧ 65535 < ((65535 : BitVec 32) - 0xFFFFFFFF).toNat ∧
      Carries (frame [0x0FFF]) [0x0FFF] := by
  unfold Carries; decide

/-- The clauses of ParameterWritten: SF to 3 and to 4 in LOCKED, SF to its own value, and a signed parameter. -/
theorem test_hyps_set_param : let s := playing
    s.listens .portD = true ∧ Carries (frame [BitVec.ofNat 16 (ParamId.code .sf), 4]) [BitVec.ofNat 16 (ParamId.code .sf), 4] ∧
      (BitVec.ofNat 16 (ParamId.code .sf)).toNat = ParamId.code .sf ∧ ¬ParamId.sf.lo < 0 ∧ (3 : Word).toNat = 3 ∧
      (4 : Word).toNat = 4 ∧ s.prm.sf = 1 ∧ s.spc.state = .locked ∧ ParamId.fofs.lo < 0 ∧
      (BitVec.ofNat 16 (ParamId.code .fofs)).toNat = ParamId.code .fofs := by
  unfold Carries; decide

/-- A block before a table, behind it, and in a middle entry (TrackOfBlockByLastEntry). -/
theorem test_hyps_track_of_block :
    let a : ZoneEntry := { firstBlock := 5, firstTrack := 0, bpt256 := 2880 }
    let b : ZoneEntry := { firstBlock := 90000, firstTrack := 8000, bpt256 := 3840 }
    let c : ZoneEntry := { firstBlock := 180000, firstTrack := 14000, bpt256 := 4608 }
    let z : ZoneTable := { entries := [a, b, c], endBlock := 323999 }
    4 < z.firstBlock ∧ z.endBlock < 324000 ∧ z.firstBlock ≤ 179999 ∧ 179999 ≤ z.endBlock ∧
      z.entries = [a] ++ b :: [c] ∧ b.firstBlock ≤ 179999 ∧ 179999 < c.firstBlock ∧ 197990 ≤ 449999 := by decide

/-- The clauses of AddressReportJudged outside an address wait: a quality outside the set, a SUSPECT report, the failures of
tests 2, 3 and 4, an acceptance without an anchor and one at ANCHOR_TOL, and a first and a third disagreement one track
beyond ANCHOR_TOL. -/
theorem test_hyps_address_report :
    let s : State := { playing with pru := { playing.pru with anchor := none } }
    let u (n : Nat) : State := { playing with pru := { playing.pru with run := n } }
    let held : State := { playing with track := { playing.track with state := .held } }
    let z : State := { playing with pru := { playing.pru with zones := { ZoneTable.default with endBlock := 44999 } } }
    s.listens .portP = true ∧ Carries (frame [0, 45000, 0]) [0, 45000, 0] ∧ s.Still ∧
      s.mve.phase ≠ .addressWait ∧ 2 ≤ (2 : Word).toNat ∧ (s.dsv.drive = .tracking ∨ s.dsv.drive = .holding) ∧
      ¬(idle.dsv.drive = .tracking ∨ idle.dsv.drive = .holding) ∧ idle.Still ∧ held.track.state ≠ .closed ∧ held.Still ∧
      z.Still ∧ z.track.state = .closed ∧ z.pru.zones.endBlock < 45000 ∧
      s.track.state = .closed ∧ s.pru.anchor = none ∧ s.pru.zones.trackOf 45000 = some 5000 ∧
      s.pru.zones.startBlock 5000 = some 45000 ∧
      playing.pru.zones.trackOf (45000 + 9 * playing.prm.anchorTol) = some (5000 + playing.prm.anchorTol) ∧
      ((5000 + playing.prm.anchorTol : Int) - playing.pru.trackIndex).natAbs ≤ playing.prm.anchorTol ∧
      (∀ n : Fin 3, (u n).Still ∧ (u n).mve.phase ≠ .addressWait ∧
        (u n).pru.anchor = some { block := 45000, estimated := 45000 } ∧
        (u n).pru.zones.trackOf (45000 + 9 * ((u n).prm.anchorTol + 1)) = some (5000 + (u n).prm.anchorTol + 1) ∧
        (u n).prm.anchorTol < ((5000 + (u n).prm.anchorTol + 1) - (u n).pru.trackIndex : Int).natAbs ∧
        (u n).pru.run = n) := by
  unfold Carries State.Still; decide

/-- The clauses of AddressReportJudged in an address wait of a seek to block 45,050, whose window begins at SEEK_WIN below:
the target itself, and the block before the window with no correction left and with one. -/
theorem test_hyps_address_wait_report :
    let s (n : Nat) : State :=
      { under .seekBlock .moving .addressWait with
        focus := { FocusLoop.reset with state := .closed }, track := { TrackLoop.reset with state := .closed }
        mve := { (under .seekBlock .moving .addressWait).mve with target := 45050, corrections := n } }
    let below := 45050 - (s 0).prm.seekWin - 1
    let aim := max ((s 0).mve.target - (s 0).prm.seekWin / 2) (s 0).pru.zones.firstBlock
    (s 0).listens .portP = true ∧ (s 0).Still ∧ (s 0).mve.phase = .addressWait ∧ (s 0).LoneMove (moveD .seekBlock) ∧
      (s 0).dsv.drive = .moving ∧ (s 0).mve.returnState = some .tracking ∧ (s 0).track.state = .closed ∧
      (s 0).pru.anchor = none ∧ (s 0).pifD.older = none ∧ (s 0).lensTaken = true ∧
      ((s 0).mve.target ≤ 45050 + (s 0).prm.seekWin ∧ 45050 ≤ (s 0).mve.target) ∧
      ¬((s 0).mve.target ≤ below + (s 0).prm.seekWin ∧ below ≤ (s 0).mve.target) ∧
      (∃ n, (s 0).pru.zones.trackOf 45050 = some n ∧ ((s 0).pru.zones.startBlock n).isSome = true) ∧
      (∃ n, (s 0).pru.zones.trackOf below = some n ∧ ((s 0).pru.zones.startBlock n).isSome = true ∧
        ∃ k, (s 0).pru.zones.trackOf aim = some k ∧ (k - n).natAbs ≤ 64) ∧
      (s 0).mve.corrections < (s 0).prm.seekCorr ∧ (s 0).pru.zones.inRange (s 0).mve.target = true ∧
      (s (s 0).prm.seekCorr).prm.seekCorr ≤ (s (s 0).prm.seekCorr).mve.corrections ∧
      (s (s 0).prm.seekCorr).LoneMove (moveD .seekBlock) := by
  unfold State.Still State.LoneMove; decide

/-- The clauses of ZoneTableReplaced: a count that does not agree with LEN, a table that fails (bpt 1,023 is below its range),
and one that passes, with no anchor, an anchor inside it and an anchor outside it. -/
theorem test_hyps_zone_set :
    let good : List Word := [0, 0, 0, 2304]
    let bad : List Word := [0, 0, 0, 1023]
    let z : ZoneTable := { entries := zoneEntriesOf good, endBlock := 6 * 65536 + 0xDDCF }
    let short : ZoneTable := { z with endBlock := 44999 }
    Carries (frame (0x0106 :: 0xDDCF :: good)) (0x0106 :: 0xDDCF :: good) ∧
      Carries (frame (0x0106 :: 0xDDCF :: bad)) (0x0106 :: 0xDDCF :: bad) ∧
      (Word.lo (0x0106 : Word)).toNat * 65536 + (0xDDCF : Word).toNat = z.endBlock ∧
      good.length = 4 * (Word.hi (0x0106 : Word)).toNat ∧ good.length ≠ 4 * (Word.hi (0x0206 : Word)).toNat ∧
      ¬(∀ e ∈ zoneEntriesOf bad, 1024 ≤ e.bpt256 ∧ e.bpt256 ≤ 7168) ∧
      (starting .search).pru.anchor = none ∧ playing.pru.anchor = some { block := 45000, estimated := 45000 } ∧
      z.inRange 45000 = true ∧ z.startBlock playing.pru.trackIndex = some 45000 ∧ short.inRange 45000 = false := by
  unfold Carries; decide

/-- The tables of that test pass the seven points (ZoneTableReplaced). -/
theorem test_hyps_zone_points (n : Nat) (hn : n = 6 * 65536 + 0xDDCF ∨ n = 44999) :
    let l := zoneEntriesOf [0, 0, 0, 2304]
    1 ≤ l.length ∧ l.length ≤ 32 ∧ (∀ e ∈ l, e.firstBlock ≤ 449999) ∧ n ≤ 449999 ∧ (∀ e ∈ l, e.firstTrack ≤ 21999) ∧
      (∀ e ∈ l, 1024 ≤ e.bpt256 ∧ e.bpt256 ≤ 7168) ∧
      (∀ pre e g post, l = pre ++ e :: g :: post → e.firstBlock < g.firstBlock ∧ e.firstTrack < g.firstTrack) ∧
      (∀ pre e, l = pre ++ [e] → e.firstBlock ≤ n) := by
  have hl : zoneEntriesOf [0, 0, 0, 2304] = [{ firstBlock := 0, firstTrack := 0, bpt256 := 2304 }] := by decide
  rw [hl]
  refine ⟨by decide, by decide, by decide, by omega, by decide, by decide, fun pre e g post h => ?_, fun pre e h => ?_⟩
  · have := congrArg List.length h; simp at this; omega
  · obtain ⟨-, he⟩ := List.append_inj' (t₁ := [_]) (s₁ := []) h rfl; simp at he; simp [← he]

/-- The clauses of DeckReportActs: code 3, CLAMPED again, CLAMPED in NO_DISC and in FAULTED, and LOADING in NO_DISC, with the
disc stopped in FAULTED, in IDLE and in a PARK's homing, and while the disc turns. -/
theorem test_hyps_deck_report : let n := State.reset
    let f : State := { idle with dsv := { idle.dsv with drive := .faulted, clamp := .unclamped } }
    let p : State := { under .park .stopping .homing with
        spc := idle.spc, dsv := { idle.dsv with drive := .stopping } }
    playing.listens .portD = true ∧ Carries (frame [3]) [3] ∧ 3 ≤ (3 : Word).toNat ∧ playing.dsv.clamp = .clamped ∧
      n.listens .portD = true ∧ n.dsv.clamp ≠ .clamped ∧ n.dsv.drive = .noDisc ∧ n.dsv.lowv = false ∧
      n.pru.anchor = none ∧ n.arb.mark = none ∧ Clamp.ofCode (2 : Word).toNat = some .loading ∧
      f.listens .portD = true ∧ f.dsv.clamp ≠ .clamped ∧ f.dsv.drive ≠ .noDisc ∧ n.spc.permit = false ∧
      f.dsv.drive = .faulted ∧ f.spc.state = .stopped ∧ f.spc.permit = true ∧ f.pru.anchor = none ∧ f.arb.mark = none ∧
      idle.dsv.drive = .idle ∧ idle.spc.state = .stopped ∧ idle.dsv.laser = false ∧ idle.spc.permit = true ∧
      idle.mve.active = none ∧ idle.NothingWaits ∧ idle.pru.anchor = none ∧ idle.arb.mark = none ∧
      p.dsv.drive = .stopping ∧ p.spc.state = .stopped ∧ p.dsv.laser = false ∧ p.spc.permit = true ∧
      p.LoneMove (moveD .park) ∧ p.mve.phase = .homing ∧ p.pifD.older = none ∧ p.pru.anchor = none ∧
      p.arb.mark = none ∧ playing.dsv.drive = .tracking ∧ playing.spc.state = .locked ∧ playing.spc.permit = true ∧
      playing.dsv.record = none ∧ playing.mve.active = none ∧ playing.NothingWaits := by
  unfold Carries State.NothingWaits State.LoneMove; decide

/-- A record latched in FAULTED, in POWER_HOLD, and none (FaultCleared). -/
theorem test_hyps_clear_fault :
    let r : FaultRecord := { kind := .spinFail, drive := .tracking, active := none, trackIndex := 0, period := 0 }
    let s : State := { idle with dsv := { idle.dsv with record := some r, drive := .faulted } }
    let u : State := { idle with dsv := { idle.dsv with record := some r, drive := .powerHold } }
    idle.listens .portP = true ∧ Carries (frame []) [] ∧ idle.dsv.record = none ∧ s.dsv.record = some r ∧
      s.dsv.drive = .faulted ∧ s.pru.anchor = none ∧ s.arb.mark = none ∧ u.dsv.record = some r ∧
      u.dsv.drive ≠ .faulted := by
  unfold Carries; decide

/-! ### Worked cases: events -/

/-- Chapter 1, worked cases: FE 232 and S 5,420; TE 48 with F'' from TBAL 272; TE -3 below the side floor. -/
theorem test_sample_errors :
    let m : Params := { Params.defaults with
        ofsA := 40, ofsB := 60, ofsC := 50, ofsD := 30, ofsE := 100, ofsF := 80, sumFloor := 1200, fofs := 5
        tbal := 272, sideFloor := 400, tofs := -3 }
    let x : SampleInputs := { a := 1500, b := 1300, c := 1450, d := 1350, e := 2300, f := 2100, rfe := 1500, ax := 0, az := 0 }
    let show' (t : State) := (t.dfe.sum, t.dfe.fe, t.dfe.te)
    after (.servoSampleEvent x) { State.reset with prm := m } show' = some (5420, 232, 48) ∧
      after (.servoSampleEvent { x with e := 300, f := 250 }) { State.reset with prm := { m with tbal := 256 } } show' =
        some (5420, 232, -3) := by decide

/-- Chapter 2, worked cases of the CLOSED sample: NORMAL gains, and the three samples of the saturation under BOOST. -/
theorem test_closed_sample :
    closedSample 48 (-200) 256 10 512 10 120000 40 = (103, 120480) ∧
      closedSample 300 0 400 16 700 0 2090000 250 = (2047, 2090000) ∧
      closedSample 280 0 400 16 700 0 2090000 300 = (2047, 2090000) ∧
      closedSample (-10) 0 400 16 700 0 2090000 280 = (1839, 2089840) := by decide

/-- Chapter 2, the failed search (R34, R112, R165): the drive is FAULTED and the result FAULT. -/
theorem test_search_failed :
    after (.searchFailed black)
        { starting .search with
          focus := { FocusLoop.reset with state := .search, ramp := .falling, drive := -1532, sweeps := 5 } }
        (fun t => (t.dsv.drive, t.dsv.laser, t.pifD.older.map (·.outcome))) =
      some (.faulted, false, some .fault) := by decide

/-- Chapter 3, a defect that outlasts DEF_MAX, sample 68: BLOCKED, LONG_DEFECT +1. -/
theorem test_forced_end :
    after (.defectForcedEnd { black with rfe := 200 })
        { playing with
          prm := { Params.defaults with defMax := 64 }
          focus := { FocusLoop.reset with state := .held }, track := { TrackLoop.reset with state := .held }
          dmn := { Dmn.reset with defect := .holding, holdLength := 63, lossRun := 3 } }
        (fun t => (t.dmn.defect, t.dmn.holdLength, t.dmn.lossRun, t.ctb.longDefect, t.focus.state, t.focus.resume)) =
      some (.blocked, 0, 4, 1, .closed, true) := by decide

/-- Chapter 4, a seek moves the target: edges 1 and 2, with T 17,805 at track 12,000 and SF 2. -/
theorem test_hall_edge_locked :
    let s (da out : Nat) : State := { playing with
        prm := { Params.defaults with sf := 2 }, pru := { Pru.reset with trackIndex := 12000 }
        spc := { playing.spc with da := da, outRun := out, edgeTimer := 0 } }
    let show' (t : State) := (t.spc.target, t.spc.da, t.spc.duty, t.spc.outRun, t.spc.state)
    after (.hallEdge 16520) (s 40000 0) show' = some (17805, 39518, 154, 1, .locked) ∧
      after (.hallEdge 16850) (s 39100 2) show' = some (17805, 38742, 151, 0, .locked) := by decide

/-- Chapter 4, spin-up at the home region: edge b captures with DA 65,280, and edge c clamps DA. -/
theorem test_hall_edge_capture :
    let s (st : SpindleState) (da : Nat) : State := { starting .spinUp with
        focus := { FocusLoop.reset with state := .closed }
        spc := { Spc.reset with state := st, permit := true, duty := 255, da := da, edgeTimer := 0
                                spinTimer := running 0 } }
    let show' (t : State) := (t.spc.state, t.spc.da, t.spc.duty, t.spc.inRun)
    after (.hallEdge 25000) (s .accel 0) show' = some (.locking, 65280, 255, 0) ∧
      after (.hallEdge 22700) (s .locking 65280) show' = some (.locking, 65535, 255, 0) := by decide

/-- R36, R107: the close timer's expiry in a close phase is a try more; both rows of it. -/
theorem test_close_retry :
    let s : State := { under .play .moving .close with
        track := { TrackLoop.reset with state := .closing, closeTimer := 49 }
        mve := { (under .play .moving .close).mve with closeTries := 1 } }
    let show' (t : State) := (t.track.state, t.track.closeTimer, t.mve.closeTries)
    after .closeTimeout s show' = some (.closing, 0, 2) ∧ after .closePhaseRetry s show' = some (.closing, 0, 2) := by
  decide

/-- R70, R165: the spin timeout latches SPIN_FAIL, and the fault stop brakes. -/
theorem test_spin_timeout :
    after .spinTimeout
        { playing with spc := { playing.spc with state := .locking, spinTimer := running (Params.defaults.spinTo - 1) } }
        (fun t => (t.dsv.record.map (·.kind), t.dsv.drive, t.spc.state)) =
      some (some .spinFail, .faulted, .braking) := by decide

/-- Chapter 11.1: the 200th tick without an edge after reset stops the spindle. -/
theorem test_spindle_stopped :
    after .spindleStopped { State.reset with spc := { Spc.reset with silence := 199 } }
        (fun t => (t.spc.state, t.dsv.drive)) = some (.stopped, .noDisc) := by decide

/-- R78, R114: a homing that times out in START. -/
theorem test_sled_stuck :
    after .sledStuck
        { starting .homing with
          slc := { Slc.reset with state := .homing, duty := -120, homingTimer := running (Params.defaults.sledHomeTo - 1) } }
        (fun t => (t.slc.state, t.slc.duty, t.dsv.record.map (·.kind), t.dsv.drive)) =
      some (.unknown, 0, some .sledStuck, .faulted) := by decide

/-- Chapter 4, following at track 10,000: the nudge of -90 ends at its 20th tick. -/
theorem test_nudge_end :
    after .nudgeEnd
        { playing with slc := { playing.slc with duty := -90, nudgeTimer := running 19, nudgeLength := 20 } }
        (fun t => (t.slc.duty, t.slc.nudgeTimer.running)) = some (0, false) := by decide

/-- Chapter 4, following at track 10,000: revolution 1 has the mean -301 and nudges inward by 90. -/
theorem test_revolution_nudges :
    after (.hallEdge 33032)
        { playing with
          spc := { playing.spc with edges := 5, edgeTimer := 0 }
          slc := { playing.slc with followSum := -5261480, followCount := 17480 } }
        (fun t => (t.slc.duty, t.slc.nudgeTimer, t.slc.followSum, t.pru.trackIndex)) =
      some (-90, running 0, 0, 5001) := by decide

/-- R108: a jump of 5 tracks times out at 10 ms and is closed. -/
theorem test_jump_timeout :
    after .jumpTimeout
        { under .jump .moving .jump with
          track := { TrackLoop.reset with state := .jumping, drive := 900, kick := .kick }
          mve := { (under .jump .moving .jump).mve with jumpSize := 5, jumpTimer := running 9 } }
        (fun t => (t.track.state, t.track.drive, t.mve.phase, t.mve.timedOut)) =
      some (.closing, 0, .close, true) := by decide

/-- R117: a holding jump is closed at 6 ms. -/
theorem test_holding_jump_timeout :
    after .holdingJumpTimeout
        { playing with
          dsv := { playing.dsv with drive := .holding }, track := { TrackLoop.reset with state := .jumping }
          mve := { Mve.reset with holdJump := .jumping, holdTimer := running 5 } }
        (fun t => (t.track.state, t.mve.holdJump, t.mve.holdTries)) = some (.closing, .closing, 1) := by decide

/-- R109: a coarse phase at SEEK_TO stops the sled and closes. -/
theorem test_seek_timeout :
    after .seekTimeout
        { under .seekTrack .moving .coarse with
          track := .reset, slc := { Slc.reset with state := .seekDrive, duty := 160, homed := true }
          mve := { (under .seekTrack .moving .coarse).mve with seekTimer := running (Params.defaults.seekTo - 1) } }
        (fun t => (t.slc.state, t.slc.duty, t.track.state, t.mve.phase)) = some (.idle, 0, .closing, .close) := by decide

/-- Chapter 11.2: the 120th tick of a wait on the aim's track is correction 2, without motion. -/
theorem test_address_wait_expiry :
    after .addressWaitExpiry
        { under .seekBlock .moving .addressWait with
          pru := { Pru.reset with
                   trackIndex := 13998
                   zones := threeZones }
          mve := { (under .seekBlock .moving .addressWait).mve with
                   target := 180050, aim := 179975, corrections := 1, waitLimit := 120, waitTimer := running 119 } }
        (fun t => (t.mve.phase, t.mve.corrections, t.mve.waitTimer.count, t.track.state, t.ctb.seekCorrection)) =
      some (.addressWait, 2, 0, .closed, 1) := by decide

/-- R126: a second without a revolution ends a measurement. -/
theorem test_revolution_gap :
    after .revolutionGapTimeout
        { under .balance .moving .measure with
          track := .reset, mve := { (under .balance .moving .measure).mve with gapTimer := running 999 } }
        (fun t => (t.mve.phase, t.mve.timedOut, t.track.state)) = some (.close, true, .closing) := by decide

/-- Chapter 3, two jolts: a tick takes the remaining time from 1 to 0 and leaves the window open; the elapsed time of a
move rises by 1 (R103). -/
theorem test_countdowns :
    after .shockTimeCountdown { playing with dmn := { Dmn.reset with window := true, remaining := 1 } }
        (fun t => (t.dmn.window, t.dmn.remaining)) = some (true, 0) ∧
      after .elapsedTimeTick (under .jump .moving .jump) (fun t => t.mve.elapsed) = some 1 := by decide

/-- R74, R36: a tick advances the silence timer and the close timer; one that would expire is left to its own row. -/
theorem test_millisecond_tick :
    after .millisecondTick
        { playing with
          spc := { playing.spc with state := .coast, silence := 199 }
          track := { TrackLoop.reset with state := .closing, closeTimer := 1 } }
        (fun t => (t.spc.silence, t.track.closeTimer)) = some (199, 2) := by decide

/-- Chapter 11.1: HOME active completes the homing; the index is -1,000 and the search begins at -1,536. -/
theorem test_home_switch :
    after (.homeSwitchChange true)
        { starting .homing with
          slc := { Slc.reset with state := .homing, duty := -120, homingTimer := running 5 }, pru := .reset }
        (fun t => (t.slc.state, t.slc.homed, t.pru.trackIndex, t.spc.target, t.focus.state, t.focus.drive)) =
      some (.atHome, true, -1000, 20142, .search, -1536) := by decide

/-- Chapter 11.6: LOWV ends a move POWER_DIP and holds the drive with the spindle in COAST. -/
theorem test_lowv_assertion :
    after .lowvAssertion (under .seekBlock .moving .coarse)
        (fun t => (t.dsv.drive, t.spc.state, t.spc.permit, t.pifD.older.map (·.outcome), t.arb.queueD.length)) =
      some (.powerHold, .coast, false, some .powerDip, 0) := by decide

/-- Chapter 11.6: at the release a START of Port D that waits is granted. -/
theorem test_lowv_release :
    after .lowvRelease
        { idle with
          lowvPin := true, dsv := { idle.dsv with drive := .powerHold, lowv := true }
          spc := { Spc.reset with state := .coast }, slc := { Slc.reset with state := .atHome, homed := true }
          arb := { Arb.reset with queueD := [{ ticket := 5, kind := .start, arg := none, chain := false }] } }
        (fun t => (t.dsv.drive, t.spc.state, t.spc.permit, t.mve.active.map (·.ticket), t.mve.phase)) =
      some (.starting, .coast, true, some 5, .search) := by decide

/-- R193: RSTN falling and rising, and power-on, from play. -/
theorem test_resets :
    after .rstnAsserted playing (fun t => (t.rstnLow, t.dsv.drive, t.spc.state)) = some (true, .noDisc, .rundown) ∧
      after .rstnReleased { playing with rstnLow := true } (fun t => (t.rstnLow, t.dsv.drive)) =
        some (false, .noDisc) ∧
      after .powerOn playing (fun t => (t.pru.trackIndex, t.spc.tm)) = some (0, 65535) := by decide

/-- R186: a select line asserted and released. -/
theorem test_select : after (.selectChange .portD true) State.reset (fun t => t.pifD.phase) = some .awaiting ∧
    after (.selectChange .portD false) { State.reset with pifD := { Pif.reset with phase := .partialFrame } }
      (fun t => t.pifD.phase) = some .released := by decide

/-- R185, R186: STATUS OK, LEN 1 and the word 0007h behind two fillers; a release before the last byte loses the rest, and
one after it does not. -/
theorem test_release_of_response :
    let r : Response := { status := .ok, payload := [7] }
    let s (k : Nat) : State := { playing with pifP := { Pif.reset with phase := .responding k, response := some r } }
    r.bytes = [0, 0, 0, 1, 0, 7] ∧ after (.selectChange .portP false) (s 5) (fun t => t.pifP.response) = some none ∧
      after (.selectChange .portP false) (s 6) (fun t => t.pifP.response) = some (some r) := by decide

/-! ### Worked cases: requests -/

/-- A status and a payload on a port. -/
def reply (p : Port) (t : State) : Option (Status × List Word) := (t.pif p).response.map (fun r => (r.status, r.payload))

/-- Chapter 11.1: START from IDLE is granted at its arrival, homes the sled at -120, and is answered with ticket 0. -/
theorem test_submit_start :
    after (.submit .portD (frame [0x0000, 0, 0])) idle
        (fun t => (reply .portD t, t.dsv.drive, t.slc.state, t.slc.duty, t.dsv.laser)) =
      some (some (.accepted, [0x0001, 0]), .starting, .homing, -120, true) := by decide

/-- R137: a kind code of 10 is refused. -/
theorem test_submit_refused :
    after (.submit .portP (frame [0x0A00, 0, 0])) idle (reply .portP) = some (some (.badValue, [])) := by decide

/-- R149: FLUSH answers the oldest removed ticket and the number. -/
theorem test_flush :
    after (.flush .portP (frame [0]))
        { under .jump .moving .jump with
          arb := { (under .jump .moving .jump).arb with
                   queueP := [{ ticket := 4, kind := .play, arg := none, chain := false },
                     { ticket := 5, kind := .hold, arg := none, chain := false }] } }
        (fun t => (reply .portP t, t.arb.queueP, t.arb.queueD.length)) =
      some (some (.ok, [0x0402]), [], 1) := by decide

/-- R183, R192: RESET_PORT sets a port's baselines to the counters and its ticket to 0. -/
theorem test_reset_port :
    after (.resetPort .portP (frame []))
        { playing with ctb := { CounterBank.zero with slip := 7 }, pifP := { Pif.reset with ticket := 5, flags := 3 } }
        (fun t => (t.pifP.baselines.slip, t.pifP.ticket, t.pifP.flags)) = some (7, 0, 0) := by decide

/-- R195: the SPINDLE group of a part after reset: RUNDOWN is 5, Tm FFFFh, T 4EAEh. -/
theorem test_get_state :
    after (.getState .portP (frame [3])) State.reset (reply .portP) =
      some (some (.ok, [5, 0, 0, 0, 0xFFFF, 0x4EAE, 0, 0, 0])) := by decide

/-- R195: the position record of an anchored play at block 45,000 (AFC8h), homed. -/
theorem test_get_position :
    after (.getPosition .portD (frame [])) playing (reply .portD) =
      some (some (.ok, [5000, 0x0003, 0, 0xAFC8, 0, 0xAFC8, 0, 0, 0, 6, 0xDDCF])) := by decide

/-- R195, chapter 11.1: the result of a START: ticket 0, D and last; START DONE; index -1,000. -/
theorem test_get_results :
    after (.getResults .portD (frame []))
        { playing with
          pifD := { Pif.reset with
                    older := some { result with port := .portD, ticket := 0, kind := .start, trackIndex := -1000 } } }
        (fun t => (reply .portD t, t.pifD.older)) =
      some (some (.ok, [0x0100, 0x0011, 0x0000, 0xFC18, 0, 0, 0, 0, 0]), none) := by decide

/-- R179: the flags are returned and cleared. -/
theorem test_get_notices :
    after (.getNotices .portP (frame [])) { playing with pifP := { Pif.reset with flags := 0x801 } }
        (fun t => (reply .portP t, t.pifP.flags)) = some (some (.ok, [0x0801]), 0) := by decide

/-- R178: an enable for a flag already set pulls the line low. -/
theorem test_set_mask :
    after (.setNoticeMask .portP (frame [0x0800])) { playing with pifP := { Pif.reset with flags := 0x801 } }
        (fun t => (t.pifP.flags, t.attention .portP)) = some (0x801, true) := by decide

/-- Chapter 9, two ports, one counter: Port D's clear at 42,768, and a view that saturates at 65,535. -/
theorem test_get_counters :
    let s (n d : BitVec 32) : State := { playing with
        ctb := { CounterBank.zero with anchorReject := n }
        pifD := { Pif.reset with baselines := { CounterBank.zero with anchorReject := d } } }
    after (.getCounters .portD (frame [1])) (s 42768 10000)
        (fun t => ((reply .portD t).map (fun r => r.2.getD 8 0), t.pifD.baselines.anchorReject)) =
      some (some 32768, 42768) ∧
      after (.getCounters .portP (frame [0])) (s 65536 0)
        (fun t => (reply .portP t).map (fun r => r.2.getD 8 0)) = some (some 65535) := by decide

/-- Chapter 8, an unclamp while a fault stop brakes: the record is read, and the emergency sets the lost flag. -/
theorem test_fault_and_deck :
    let s : State := { idle with
        dsv := { idle.dsv with
                 drive := .faulted
                 record := some { kind := .driveOverload, drive := .moving
                                  active := some { port := .portP, ticket := 6, kind := .jump }
                                  trackIndex := 10212, period := 33050 } }
        spc := { Spc.reset with state := .braking, permit := true, duty := 255, dir := .rev } }
    after (.getFault .portP (frame [])) s (reply .portP) =
        some (some (.ok, [0x0505, 0x0505, 0x0006, 10212, 33050])) ∧
      after (.deckReport .portD (frame [1])) s (fun t => (t.dsv.clamp, t.dsv.lost, t.spc.state, t.dsv.drive)) =
        some (.unclamped, true, .coast, .faulted) ∧
      after (.clearFault .portD (frame [])) { s with dsv := { s.dsv with clamp := .unclamped } }
        (fun t => (t.dsv.record, t.dsv.drive)) = some (none, .noDisc) := by decide

/-- R194: KICK's default is 900; a value above its range is clamped, and the clamped value answered. -/
theorem test_parameters :
    after (.getParam .portP (frame [BitVec.ofNat 16 (ParamId.code .kick)])) playing (reply .portP) =
        some (some (.ok, [BitVec.ofNat 16 (ParamId.code .kick), 900])) ∧
      after (.setParam .portD (frame [BitVec.ofNat 16 (ParamId.code .anchorTol), 0xFFFF])) playing
        (fun t => (reply .portD t).map (·.1)) = some (some .clamped) := by decide

/-- R174, R146: a mode and a policy written; SET_POLICY on Port P is foreign to it. -/
theorem test_mode_and_policy :
    after (.setPortMode .portP (frame [1])) playing (fun t => (t.pifP.mode, t.pifD.mode)) =
        some (.overwrite, .holdOff) ∧
      after (.setPolicy .portD (frame [2])) playing (fun t => t.arb.policy) = some .deckStrong ∧
      after (.setPolicy .portP (frame [2])) playing (reply .portP) = some (some (.notThisPort, [])) := by decide

/-- Chapter 5, three disagreeing reports: GOOD 120,150 as the third drops the anchor; a GOOD 120,160 then anchors at track
10,010. -/
theorem test_address_report :
    let s (a : Option Anchor) (r : Nat) : State := { playing with
        pru := { Pru.reset with
                 trackIndex := 10003, anchor := a, revs := 1, run := r
                 zones := threeZones } }
    after (.addressReport .portP (frame [0x0001, 0xD556, 0])) (s (some { block := 120035, estimated := 120045 }) 2)
        (fun t => (t.pru.anchor, t.pru.run, t.pru.revs, t.ctb.anchorReject, t.ctb.anchorDrop)) =
      some (none, 0, 1, 1, 1) ∧
      after (.addressReport .portP (frame [0x0001, 0xD560, 0])) (s none 0)
        (fun t => (t.pru.trackIndex, t.pru.anchor, t.pru.revs)) =
      some (10010, some { block := 120160, estimated := 120150 }, 0) := by decide

/-- Chapter 11.3: MARK 120,040 on track 10,002 is taken; UNMARK clears it. -/
theorem test_mark :
    let s : State := { playing with
        pru := { Pru.reset with
                 trackIndex := 10002, anchor := some { block := 120040, estimated := 120030 }
                 zones := threeZones } }
    after (.mark .portP (frame [0x0001, 0xD4E8])) s (fun t => t.arb.mark) =
        some (some { block := 120040, track := 10002 }) ∧
      after (.unmark .portP (frame [])) { s with arb := { Arb.reset with mark := some { block := 120040, track := 10002 } } }
        (fun t => t.arb.mark) = some none := by decide

/-- Chapter 5, a three-zone table: loaded, read back, and its conversions. -/
theorem test_zones :
    let ws : List Word := [0x0304, 0xF19F, 0, 0, 0, 2880, 1, 0x5F90, 8000, 3840, 2, 0xBF20, 14000, 4608]
    let tracks (t : State) := [120100, 323999, 330000].map t.pru.zones.trackOf
    let blocks (t : State) := [10006, -1000].map t.pru.zones.startBlock
    after (.zoneSet .portP (frame ws)) idle tracks = some [some 10006, some 21999, none] ∧
      after (.zoneSet .portP (frame ws)) idle blocks = some [some 120090, none] ∧
      after (.getZones .portD (frame [])) idle (reply .portD) = some (some (.ok, [0x0106, 0xDDCF, 0, 0, 0, 2304])) := by
  decide

/-- R189: a code outside the catalogue is refused with UNKNOWN. -/
theorem test_unknown_code :
    after (.unknownCodeRequest .portP 0x7F (frame [])) playing (reply .portP) = some (some (.unknown, [])) := by decide

end Sys2Proof.Tests
end

section
/-!
PROOFS. The shock judgement of DMN (R49): when a sample is a shock sample, and what each row of the judgement's table does.
-/

namespace Sys2Proof.Machine

variable {s : State}

/-! ### Shock samples -/

theorem State.shockSample_iff :
    s.shockSample = true ↔ s.prm.shockLevel ≤ s.dfe.ax.natAbs ∨ s.prm.shockLevel ≤ s.dfe.az.natAbs := by
  simp [State.shockSample]

/-- R194 keeps SHOCK_LEVEL below 512, the magnitude of the end code -512. -/
theorem Params.InRange.shockLevel_le {m : Params} (h : m.InRange) : m.shockLevel ≤ 511 := by
  obtain ⟨range, -⟩ := h
  have := (range .shockLevel).2
  simp only [ParamId.hi, Params.get] at this
  omega

theorem Params.InRange.shockLevel_le_natAbs_of_end_code {m : Params} (h : m.InRange) {a : Int} (ha : a = -512) :
    m.shockLevel ≤ a.natAbs := by
  have := h.shockLevel_le
  omega

/-! ### The rows of the table -/

theorem State.judgeShock_opens_window (shock : s.shockSample = true) (closed : s.dmn.window = false) :
    s.judgeShock =
      (({ s with
          dmn := { s.dmn with window := true, remaining := s.prm.shockHold }
          focus := { s.focus with gains := .boost }, track := { s.track with gains := .boost } } : State).bump
        .shock).raiseBoth .shock := by
  unfold State.judgeShock
  rw [if_pos shock, if_neg (by simp [closed])]
  rfl

theorem State.judgeShock_extends_window (shock : s.shockSample = true) (opened : s.dmn.window = true) :
    s.judgeShock = { s with dmn := { s.dmn with remaining := s.prm.shockHold } } := by
  unfold State.judgeShock
  rw [if_pos shock, if_pos opened]

theorem State.judgeShock_calm (calm : ¬s.shockSample = true) (stays : s.dmn.window = false ∨ 0 < s.dmn.remaining) :
    s.judgeShock = s := by
  have notDue : ¬(s.dmn.window = true ∧ s.dmn.remaining = 0) := by
    rintro ⟨opened, ended⟩
    obtain closed | running := stays
    · simp [opened] at closed
    · omega
  unfold State.judgeShock
  rw [if_neg calm, if_neg notDue]

theorem State.judgeShock_closes_window (calm : ¬s.shockSample = true) (opened : s.dmn.window = true)
    (ended : s.dmn.remaining = 0) :
    s.judgeShock =
      { s with
        dmn := { s.dmn with window := false }, focus := { s.focus with gains := .normal }
        track := { s.track with gains := .normal } } := by
  unfold State.judgeShock
  rw [if_neg calm, if_pos ⟨opened, ended⟩]
  rfl

/-! ### The statement -/

/-- Settles O19: one lemma for each row of the table of R49, and the range of SHOCK_LEVEL for the end code. -/
theorem shockWindowByTable : Obligations.ShockWindowByTable := by
  intro s
  dsimp only
  rw [← State.shockSample_iff]
  refine ⟨fun inRange endCode => State.shockSample_iff.mpr ?_, State.judgeShock_opens_window,
    State.judgeShock_extends_window, State.judgeShock_calm, State.judgeShock_closes_window⟩
  exact endCode.imp inRange.shockLevel_le_natAbs_of_end_code inRange.shockLevel_le_natAbs_of_end_code

end Sys2Proof.Machine
end

section
/-!
PROOFS. The track of a block (R89): which entry of the Zone Table the conversion uses, and what it forms from it.
-/

namespace Sys2Proof.Machine

theorem clampI_eq_max_min {lo hi : Int} (h : lo ≤ hi) (x : Int) : clampI lo hi x = max lo (min x hi) := by
  unfold clampI
  split
  · omega
  · split <;> omega

/-! ### The entry of a block -/

/-- R89's search: behind the entry `e`, every first block lies above `b`. -/
theorem ZoneEntry.last_not_above {pre post : List ZoneEntry} {e : ZoneEntry} {b : Nat} (starts : e.firstBlock ≤ b)
    (above : ∀ x ∈ post, b < x.firstBlock) :
    ((pre ++ e :: post).filter (fun x => x.firstBlock ≤ b)).getLast? = some e := by
  have dropped : post.filter (fun x => x.firstBlock ≤ b) = [] :=
    List.filter_eq_nil_iff.mpr fun x hx => by simpa using above x hx
  rw [List.filter_append, List.filter_cons_of_pos (by simpa using starts), dropped, List.getLast?_concat]

/-! ### The conversion -/

namespace ZoneTable

variable {z : ZoneTable} {b : Nat}

theorem inRange_iff : z.inRange b = true ↔ z.firstBlock ≤ b ∧ b ≤ z.endBlock := by
  simp [inRange]

theorem trackOf_outside (outside : b < z.firstBlock ∨ z.endBlock < b) : z.trackOf b = none := by
  have notIn : ¬z.inRange b = true := by
    rw [inRange_iff]
    omega
  exact if_neg notIn

theorem trackOf_inside (low : z.firstBlock ≤ b) (high : b ≤ z.endBlock) {pre post : List ZoneEntry} {e : ZoneEntry}
    (split : z.entries = pre ++ e :: post) (starts : e.firstBlock ≤ b) (above : ∀ x ∈ post, b < x.firstBlock) :
    z.trackOf b =
      some (max 0 (min ((e.firstTrack + (b - e.firstBlock) * 256 / e.bpt256 : Nat) : Int) 21999)) := by
  unfold trackOf
  rw [if_pos (inRange_iff.mpr ⟨low, high⟩), split, ZoneEntry.last_not_above starts above, Option.map_some,
    clampI_eq_max_min (by decide)]
  rfl

/-- The default table has 9 blocks to a track (2,304 / 256), and its one entry serves every block. -/
theorem trackOf_default (high : b ≤ 449999) : default.trackOf b = some (min ((b / 9 : Nat) : Int) 21999) := by
  have formed := trackOf_inside (z := default) (pre := []) (Nat.zero_le b) high rfl (Nat.zero_le b) (by simp)
  have ninth : 0 + (b - 0) * 256 / 2304 = b / 9 := by omega
  rw [formed, ninth, max_eq_right (by omega)]

theorem trackOf_default_last_iff (high : b ≤ 449999) : default.trackOf b = some 21999 ↔ 197991 ≤ b := by
  rw [trackOf_default high, Option.some_inj]
  omega

end ZoneTable

/-! ### The statement -/

/-- Settles O56: outside the range, inside it by the last entry not above the block, and the clamp under the default table. -/
theorem trackOfBlockByLastEntry : Obligations.TrackOfBlockByLastEntry :=
  ⟨fun _ _ => ZoneTable.trackOf_outside,
    fun _ _ _ _ _ low high split starts above => ZoneTable.trackOf_inside low high split starts above,
    fun _ => ZoneTable.trackOf_default_last_iff⟩

end Sys2Proof.Machine
end

section
/-!
PROOFS. The increment of a counter (R180, R182): what the Counter Bank and the two ports' interfaces hold after it.
-/

namespace Sys2Proof.Machine

/-! ### The Counter Bank -/

@[simp] theorem CounterBank.get_put (b : CounterBank) (c d : CounterId) (v : BitVec 32) :
    (b.put c v).get d = if d = c then v else b.get d := by
  cases c <;> cases d <;> rfl

/-! ### COUNTER_HALF at one port -/

/-- A port's interface once the counter has risen to `now`; `State.judgeHalf_eq` ties it to the model's order. -/
def Pif.judgedAt (f : Pif) (c : CounterId) (now : BitVec 32) : Pif :=
  { f with
    flags := if (now - f.baselines.get c).toNat = 32768 then f.flags ||| Notice.counterHalf.flag else f.flags }

@[simp] theorem State.setPif_pif (s : State) (p : Port) : s.setPif p (s.pif p) = s := by
  cases p <;> rfl

theorem State.judgeHalf_eq (s : State) (c : CounterId) (p : Port) :
    s.judgeHalf c p = s.setPif p ((s.pif p).judgedAt c (s.ctb.get c)) := by
  unfold State.judgeHalf counterDiff Config.halfView Pif.judgedAt
  split
  case isTrue half => rfl
  case isFalse notHalf => exact (s.setPif_pif p).symm

/-! ### The increment -/

theorem State.bump_eq (s : State) (c : CounterId) :
    s.bump c =
      { s with
        ctb := s.ctb.put c (s.ctb.get c + 1), pifP := s.pifP.judgedAt c (s.ctb.get c + 1)
        pifD := s.pifD.judgedAt c (s.ctb.get c + 1) } := by
  simp only [State.bump, State.judgeHalf_eq, State.setPif_frame, CounterBank.get_put, if_true]
  rfl

/-! ### The statement -/

/-- Settles O52: the bank by what a write leaves to read, and each port's interface by the judgement at the risen value. -/
theorem incrementJudgesHalf : Obligations.IncrementJudgesHalf := by
  intro c s
  rw [State.bump_eq]
  refine ⟨rfl, by simp [CounterBank.get_put], fun d other => by simp [CounterBank.get_put, other], fun p => ?_⟩
  cases p with
  | portP => rfl
  | portD => rfl

end Sys2Proof.Machine
end

section
/-!
PROOFS. Every step keeps a sound state sound: the effects of the lines that Laws/ does not name as one event, the dispatch
over the 47 commands, and the step; with it the state after reset.
-/

namespace Sys2Proof.Machine

variable {s t : State}

/-! ### Commands that the lines and the ticks give -/

/-- An expiry keeps a sound state where its effect does, from the state in which it is due. -/
theorem State.Sound.when (h : s.Sound) {due : Bool} {effect : State → State}
    (kept : due = true → (effect s).Sound) : (s.when due effect).Sound := by
  unfold State.when
  split
  case isTrue taken => exact kept (Bool.and_eq_true_iff.mp taken).2
  case isFalse => exact h

theorem State.Sound.homePin (h : s.Sound) (active : Bool) : ({ s with homePin := active } : State).Sound :=
  h.of_core { h.toCore with } rfl rfl rfl

/-- The LOWV level moved without an event: RSTN is low, or the level is the one that stood (R193). -/
theorem State.Sound.lowvPin (h : s.Sound) {level : Bool} (quiet : s.rstnLow = true ∨ s.lowvPin = level) :
    ({ s with lowvPin := level } : State).Sound :=
  { h with
    supply := by
      refine ⟨fun high => ?_, h.supply.2⟩
      obtain low | same := quiet
      · exact absurd (low.symm.trans high) (by decide)
      · exact (h.supply.1 high).trans same }

theorem State.Core.lowvPin (h : s.Core) (level : Bool) : ({ s with lowvPin := level } : State).Core := { h with }

theorem State.Sound.lowvAssertion (h : s.Sound) : ∃ t, execLowvAssertion s = .next t ∧ t.Sound := by
  refine ⟨_, rfl, ?_⟩
  split
  case isTrue => exact State.Sound.lowvEvent (h.toCore.lowvPin true) rfl
  case isFalse quiet =>
    refine h.lowvPin ?_
    cases low : s.rstnLow <;> simp_all

/-- While the LOWV input stands asserted outside reset, the drive is POWER_HOLD with nothing in flight (R167). -/
theorem State.Sound.held (h : s.Sound) (high : s.rstnLow = false) (pin : s.lowvPin = true) :
    s.dsv.laser = false ∧ s.spc.permit = false ∧ s.mve.active = none ∧ s.mve.activity = .none := by
  have lowv : s.dsv.lowv = true := (h.supply.1 high).trans pin
  have drive : s.dsv.drive = .powerHold := h.supply.2 lowv
  refine ⟨h.unlit (by rw [drive]; rfl), ?_, h.toCore.no_move fun k => ?_,
    h.toCore.no_activity (by rw [drive]; decide)⟩
  · have permit := h.permit
    unfold State.PermitLaw at permit
    simpa [lowv] using permit
  · rw [drive]
    cases k <;> decide

theorem State.Sound.lowvRelease (h : s.Sound) : ∃ t, execLowvRelease s = .next t ∧ t.Sound := by
  refine ⟨_, rfl, ?_⟩
  split
  case isTrue taken =>
    obtain ⟨pin, high⟩ := Bool.and_eq_true_iff.mp taken
    obtain ⟨laser, permit, move, activity⟩ := h.held (by simpa using high) pin
    exact State.Sound.releaseEvent (h.toCore.lowvPin false) rfl laser permit move activity
  case isFalse quiet =>
    refine h.lowvPin ?_
    cases low : s.rstnLow <;> simp_all

theorem State.Sound.homeSwitchChange (h : s.Sound) (active : Bool) :
    ∃ t, execHomeSwitchChange active s = .next t ∧ t.Sound := by
  refine ⟨_, rfl, ?_⟩
  split
  case isTrue => exact (h.homePin active).homeReached.arbitrate
  case isFalse => exact h.homePin active

theorem State.Sound.selectChange (h : s.Sound) (p : Port) (asserted : Bool) :
    ∃ t, execSelectChange p asserted s = .next t ∧ t.Sound := by
  refine ⟨_, rfl, ?_⟩
  split
  case isTrue => exact h.setPif p (h.toCore.store p)
  case isFalse => exact h.setPif p (h.toCore.store p)

/-- A choice between two sound states. -/
theorem State.Sound.ite {c : Prop} [Decidable c] (ht : t.Sound) (hs : s.Sound) : (if c then t else s).Sound := by
  split
  case isTrue => exact ht
  case isFalse => exact hs

/-! ### The dispatch -/

/-- Every command gives a next state, which is sound where the state it found is. -/
theorem State.Sound.exec (h : s.Sound) (i : Instr) : ∃ t, Machine.exec i s = .next t ∧ t.Sound := by
  cases i with
  | servoSampleEvent x => exact ⟨_, rfl, h.ite (h.sampleEvent x)⟩
  | searchFailed x => exact ⟨_, rfl, (h.sampleEvent x).ite h⟩
  | defectForcedEnd x => exact ⟨_, rfl, (h.sampleEvent x).ite h⟩
  | hallEdge us => exact ⟨_, rfl, h.ite ((h.judgeEdge us).countEdge.arbitrate)⟩
  | closeTimeout => exact ⟨_, rfl, h.when fun _ => h.closeFails⟩
  | closePhaseRetry => exact ⟨_, rfl, h.when fun _ => h.closeFails⟩
  | spinTimeout => exact ⟨_, rfl, h.when fun _ => h.spinFails⟩
  | spindleStopped => exact ⟨_, rfl, h.when fun _ => h.spindleStops⟩
  | sledStuck => exact ⟨_, rfl, h.when fun _ => h.sledSticks⟩
  | nudgeEnd => exact ⟨_, rfl, h.when fun _ => h.nudgeEnds⟩
  | jumpTimeout => exact ⟨_, rfl, h.when fun _ => h.jumpTimesOut⟩
  | holdingJumpTimeout =>
    refine ⟨_, rfl, h.when fun due => h.holdTimesOut ?_⟩
    exact of_decide_eq_true (Bool.and_eq_true_iff.mp due).1
  | seekTimeout => exact ⟨_, rfl, h.when fun _ => h.seekTimesOut⟩
  | addressWaitExpiry => exact ⟨_, rfl, h.when fun _ => h.waitExpires⟩
  | revolutionGapTimeout => exact ⟨_, rfl, h.when fun _ => h.gapTimesOut⟩
  | shockTimeCountdown => exact ⟨_, rfl, h.when fun _ => h.dmn _⟩
  | elapsedTimeTick => exact ⟨_, rfl, h.when fun _ => h.mve rfl rfl rfl rfl rfl⟩
  | millisecondTick => exact ⟨_, rfl, h.when fun _ => h.tickTimers⟩
  | homeSwitchChange active => exact h.homeSwitchChange active
  | lowvAssertion => exact h.lowvAssertion
  | lowvRelease => exact h.lowvRelease
  | rstnAsserted => exact ⟨_, rfl, State.Sound.heldReset s⟩
  | rstnReleased => exact ⟨_, rfl, (State.Sound.outOfReset s).ite h⟩
  | powerOn => exact ⟨_, rfl, (State.Sound.heldReset s).ite (State.Sound.outOfReset s)⟩
  | selectChange p asserted => exact h.selectChange p asserted
  | submit p f => exact ⟨_, rfl, h.takeRequest (h.ownSubmit p)⟩
  | flush p f => exact ⟨_, rfl, h.takeRequest (h.ownFlush p)⟩
  | resetPort p f => exact ⟨_, rfl, h.takeRequest (h.ownResetPort p)⟩
  | getState p f => exact ⟨_, rfl, h.takeRequest (h.ownGetState p)⟩
  | getPosition p f => exact ⟨_, rfl, h.takeRequest fun _ => h⟩
  | getResults p f => exact ⟨_, rfl, h.takeRequest (h.ownGetResults p)⟩
  | getNotices p f => exact ⟨_, rfl, h.takeRequest (h.ownGetNotices p)⟩
  | setNoticeMask p f => exact ⟨_, rfl, h.takeRequest (h.ownSetNoticeMask p)⟩
  | getCounters p f => exact ⟨_, rfl, h.takeRequest (h.ownGetCounters p)⟩
  | getFault p f => exact ⟨_, rfl, h.takeRequest fun _ => h⟩
  | clearFault p f => exact ⟨_, rfl, h.takeRequest fun _ => h.clearRecord⟩
  | getParam p f => exact ⟨_, rfl, h.takeRequest (h.ownGetParam p)⟩
  | setParam p f => exact ⟨_, rfl, h.takeRequest (h.ownSetParam p)⟩
  | setPortMode p f => exact ⟨_, rfl, h.takeRequest (h.ownSetPortMode p)⟩
  | addressReport p f => exact ⟨_, rfl, h.takeRequest (h.ownAddressReport p)⟩
  | mark p f => exact ⟨_, rfl, h.takeRequest (h.ownMark p)⟩
  | unmark p f => exact ⟨_, rfl, h.takeRequest (h.ownUnmark p)⟩
  | zoneSet p f => exact ⟨_, rfl, h.takeRequest (h.ownZoneSet p)⟩
  | getZones p f => exact ⟨_, rfl, h.takeRequest fun _ => h⟩
  | deckReport p f => exact ⟨_, rfl, h.takeRequest (h.ownDeckReport p)⟩
  | setPolicy p f => exact ⟨_, rfl, h.takeRequest (h.ownSetPolicy p)⟩
  | unknownCodeRequest p c f => exact ⟨_, rfl, h.ite (h.takeRequest fun _ => h)⟩

/-! ### The statements -/

/-- Settles O5: an idle step is a PWM period, and any other is the front command on the state with the queue's rest. -/
theorem stepKeepsSound : Obligations.StepKeepsSound := by
  intro s t h run
  unfold step at run
  split at run
  case h_1 =>
    obtain rfl := Host.Outcome.next.inj run
    exact h.pwmPeriod
  case h_2 c rest _ =>
    obtain ⟨u, taken, sound⟩ := (h.pending rest).exec c
    obtain rfl := Host.Outcome.next.inj (taken.symm.trans run)
    exact sound

/-- Settles O6: the reset state is a state out of reset, with every line inactive. -/
theorem resetIsSound : Obligations.ResetIsSound := State.Sound.outOfReset State.reset

end Sys2Proof.Machine
end

section
/-!
PROOFS. The taking of a request by a port (R185 to R190): the five ways in which a row at a port ends, the catalogue of
the requests with their ports and lengths, and the two statements about it, that of the judgement and that of reset held.
-/

namespace Sys2Proof.Machine

variable {s : State} {p : Port} {f : Frame} {ws : List Word} {use : PortUse} {need : List Word → Option Nat}
  {owner : Owner}

/-! ### A row at a port -/

theorem tooLong_eq_false (fits : f.len.toNat ≤ 130) : tooLong f = false :=
  decide_eq_false (show ¬130 < f.len.toNat by omega)

theorem State.takeRequest_deaf (deaf : s.listens p = false) :
    s.takeRequest use need owner p f = s.shiftOut p f := by
  simp [State.takeRequest, deaf]

theorem State.takeRequest_partial (listens : s.listens p = true) (fits : f.len.toNat ≤ 130)
    (short : f.words.length < f.len.toNat) : s.takeRequest use need owner p f = s.partly p := by
  have open' : isComplete f = false := by simp [isComplete, tooLong_eq_false fits, short]
  simp [State.takeRequest, listens, open']

/-- A frame whose last byte has come in is answered with the port's judgement. -/
theorem State.takeRequest_judged (listens : s.listens p = true) (complete : isComplete f = true) :
    s.takeRequest use need owner p f =
      (s.judgeRequest use need owner p f).1.respond p (s.judgeRequest use need owner p f).2 := by
  simp [State.takeRequest, listens, complete]

theorem State.takeRequest_long (listens : s.listens p = true) (long : 130 < f.len.toNat) :
    s.takeRequest use need owner p f = s.respond p (.refusal .badLength) := by
  have tooLong : tooLong f = true := decide_eq_true long
  rw [State.takeRequest_judged listens (by simp [isComplete, tooLong])]
  simp [State.judgeRequest, tooLong]

theorem isComplete_of_le (whole : f.len.toNat ≤ f.words.length) : isComplete f = true := by
  simp [isComplete, whole]

theorem State.takeRequest_foreign (listens : s.listens p = true) (fits : f.len.toNat ≤ 130)
    (whole : f.len.toNat ≤ f.words.length) (foreign : use.admits p = false) :
    s.takeRequest use need owner p f = s.respond p (.refusal .notThisPort) := by
  rw [State.takeRequest_judged listens (isComplete_of_le whole)]
  simp [State.judgeRequest, tooLong_eq_false fits, foreign]

theorem State.takeRequest_length (listens : s.listens p = true) (fits : f.len.toNat ≤ 130)
    (whole : f.len.toNat ≤ f.words.length) (own : use.admits p = true)
    (wrong : need (payloadOf f) ≠ some f.len.toNat) :
    s.takeRequest use need owner p f = s.respond p (.refusal .badLength) := by
  rw [State.takeRequest_judged listens (isComplete_of_le whole)]
  simp [State.judgeRequest, tooLong_eq_false fits, own, wrong]

/-- A frame of the port and length that the catalogue gives its request reaches the owner. -/
theorem State.takeRequest_reaches (listens : s.listens p = true) (fits : f.len.toNat ≤ 130)
    (whole : f.len.toNat ≤ f.words.length) (own : use.admits p = true)
    (right : need (payloadOf f) = some f.len.toNat) :
    s.takeRequest use need owner p f =
      (owner p (payloadOf f) s).1.respond p (owner p (payloadOf f) s).2 := by
  rw [State.takeRequest_judged listens (isComplete_of_le whole)]
  simp [State.judgeRequest, tooLong_eq_false fits, own, right]

/-! ### A frame that carries a payload -/

theorem Carries.payload (carries : Carries f ws) : payloadOf f = ws := by
  obtain ⟨len, -, words⟩ := carries
  rw [payloadOf, len, words]

theorem Carries.whole (carries : Carries f ws) : f.len.toNat ≤ 130 ∧ f.len.toNat ≤ f.words.length := by
  obtain ⟨len, fits, words⟩ := carries
  have taken := congrArg List.length words
  rw [List.length_take] at taken
  omega

/-- The owner's answer to a frame that carries a payload of the right length, on a port of the request. -/
theorem State.takeRequest_carried (listens : s.listens p = true) (carries : Carries f ws)
    (own : use.admits p = true) (right : need ws = some ws.length) :
    s.takeRequest use need owner p f = (owner p ws s).1.respond p (owner p ws s).2 := by
  have reached := State.takeRequest_reaches (owner := owner) listens carries.whole.1 carries.whole.2 own
    (by rw [carries.payload, right, carries.1] : need (payloadOf f) = some f.len.toNat)
  rwa [carries.payload] at reached

/-! ### The catalogue (R190, R195) -/

/-- The requests that are refused with NOT_THIS_PORT at a port (R190). -/
def ForeignCode (p : Port) (c : Byte) : Prop :=
  (p = .portD ∧ c.toNat ∈ [0x40, 0x41, 0x42, 0x43]) ∨ (p = .portP ∧ c.toNat ∈ [0x39, 0x50, 0x51])

/-- The ports on which the request of a CODE is taken; `foreignCode_iff` ties it to the refusals. -/
def homeOf (c : Byte) : PortUse :=
  if c.toNat ∈ [0x40, 0x41, 0x42, 0x43] then .onlyP
  else if c.toNat ∈ [0x39, 0x50, 0x51] then .onlyD
  else .both

theorem foreignCode_iff (p : Port) (c : Byte) : ForeignCode p c ↔ (homeOf c).admits p = false := by
  have apart : c.toNat ∈ [0x40, 0x41, 0x42, 0x43] → c.toNat ∉ [0x39, 0x50, 0x51] := by
    simp only [List.mem_cons, List.not_mem_nil, or_false]
    omega
  unfold ForeignCode homeOf
  split
  case isTrue onlyP => cases p <;> simp [PortUse.admits, onlyP, apart onlyP]
  case isFalse notP =>
    split
    case isTrue onlyD => cases p <;> simp [PortUse.admits, onlyD, notP]
    case isFalse notD => cases p <;> simp [PortUse.admits, notP, notD]

/-- What the catalogue says of a CODE at a port: where it is taken, its length, and the owner of an unknown one. -/
structure Catalogued (p : Port) (c : Byte) (f : Frame) (use : PortUse) (need : List Word → Option Nat)
    (owner : Owner) : Prop where
  port : ForeignCode p c ↔ use.admits p = false
  length : ∀ n, (c.toNat, n) ∈ requestLengths → need = exactly n
  unknown : knownCode c = false → use = .both ∧ need = (fun _ => some f.len.toNat) ∧ owner = ownUnknown

theorem requestLengths_lookup : ∀ x ∈ requestLengths, requestLengths.lookup x.1 = some x.2 := by decide

/-- The listed length of a code is the only one. -/
theorem requestLengths_unique {c n k : Nat} (listed : requestLengths.lookup c = some n)
    (member : (c, k) ∈ requestLengths) : k = n :=
  Option.some.inj ((requestLengths_lookup _ member).symm.trans listed)

theorem Catalogued.fixed {c : Byte} {n : Nat} (known : knownCode c = true)
    (listed : requestLengths.lookup c.toNat = some n) : Catalogued p c f (homeOf c) (exactly n) owner where
  port := foreignCode_iff p c
  length k member := by rw [requestLengths_unique listed member]
  unknown no := absurd (known.symm.trans no) (by decide)

theorem Catalogued.zoneSet : Catalogued p 0x43 f .onlyP need owner where
  port := foreignCode_iff p 0x43
  length k member := by
    have unlisted : requestLengths.lookup 0x43 = none := rfl
    exact absurd (unlisted.symm.trans (requestLengths_lookup _ member)) (by simp)
  unknown no := absurd no (by decide)

theorem knownCode_of_foreign {c : Byte} (foreign : ForeignCode p c) : knownCode c = true := by
  unfold ForeignCode at foreign
  simp only [List.mem_cons, List.not_mem_nil, or_false] at foreign
  unfold knownCode
  obtain ⟨-, code⟩ | ⟨-, code⟩ := foreign
  · obtain code | code | code | code := code <;> rw [code] <;> rfl
  · obtain code | code | code := code <;> rw [code] <;> rfl

theorem knownCode_of_listed {c : Byte} {n : Nat} (member : (c.toNat, n) ∈ requestLengths) : knownCode c = true := by
  have listed : ∀ x ∈ requestLengths,
      [0x20, 0x21, 0x2F, 0x30, 0x31, 0x32, 0x33, 0x34, 0x35, 0x36, 0x37, 0x38, 0x39, 0x3A, 0x40, 0x41, 0x42, 0x43, 0x44,
        0x50, 0x51].contains x.1 = true := by decide
  exact listed _ member

theorem Catalogued.unknownCode {c : Byte} (unknown : knownCode c = false) :
    Catalogued p c f .both (fun _ => some f.len.toNat) ownUnknown where
  port := by
    refine iff_of_false (fun foreign => ?_) (by simp [PortUse.admits])
    exact absurd ((knownCode_of_foreign foreign).symm.trans unknown) (by decide)
  length k member := absurd ((knownCode_of_listed member).symm.trans unknown) (by decide)
  unknown _ := ⟨rfl, rfl, rfl⟩

/-- Every request is a row at its port, taken as the catalogue says. -/
theorem exec_request {i : Instr} {c : Byte} (request : frameOf i = some (p, c, f))
    (unknown : ∀ q d g, i = .unknownCodeRequest q d g → knownCode d = false) (s : State) :
    ∃ use need owner, exec i s = .next (s.takeRequest use need owner p f) ∧ Catalogued p c f use need owner := by
  cases i with
  | unknownCodeRequest q d g =>
    have no := unknown q d g rfl
    obtain ⟨rfl, rfl, rfl⟩ : q = p ∧ d = c ∧ g = f := by simpa [frameOf] using request
    refine ⟨_, _, _, ?_, .unknownCode no⟩
    show Host.Outcome.next (if knownCode d then s else _) = _
    rw [if_neg (by simp [no])]
  | zoneSet q g => cases request; exact ⟨_, _, _, rfl, .zoneSet⟩
  | submit q g => cases request; exact ⟨_, _, _, rfl, .fixed rfl rfl⟩
  | flush q g => cases request; exact ⟨_, _, _, rfl, .fixed rfl rfl⟩
  | resetPort q g => cases request; exact ⟨_, _, _, rfl, .fixed rfl rfl⟩
  | getState q g => cases request; exact ⟨_, _, _, rfl, .fixed rfl rfl⟩
  | getPosition q g => cases request; exact ⟨_, _, _, rfl, .fixed rfl rfl⟩
  | getResults q g => cases request; exact ⟨_, _, _, rfl, .fixed rfl rfl⟩
  | getNotices q g => cases request; exact ⟨_, _, _, rfl, .fixed rfl rfl⟩
  | setNoticeMask q g => cases request; exact ⟨_, _, _, rfl, .fixed rfl rfl⟩
  | getCounters q g => cases request; exact ⟨_, _, _, rfl, .fixed rfl rfl⟩
  | getFault q g => cases request; exact ⟨_, _, _, rfl, .fixed rfl rfl⟩
  | clearFault q g => cases request; exact ⟨_, _, _, rfl, .fixed rfl rfl⟩
  | getParam q g => cases request; exact ⟨_, _, _, rfl, .fixed rfl rfl⟩
  | setParam q g => cases request; exact ⟨_, _, _, rfl, .fixed rfl rfl⟩
  | setPortMode q g => cases request; exact ⟨_, _, _, rfl, .fixed rfl rfl⟩
  | addressReport q g => cases request; exact ⟨_, _, _, rfl, .fixed rfl rfl⟩
  | mark q g => cases request; exact ⟨_, _, _, rfl, .fixed rfl rfl⟩
  | unmark q g => cases request; exact ⟨_, _, _, rfl, .fixed rfl rfl⟩
  | getZones q g => cases request; exact ⟨_, _, _, rfl, .fixed rfl rfl⟩
  | deckReport q g => cases request; exact ⟨_, _, _, rfl, .fixed rfl rfl⟩
  | setPolicy q g => cases request; exact ⟨_, _, _, rfl, .fixed rfl rfl⟩
  | _ => cases request

/-! ### Reset held -/

theorem State.deaf_of_low (low : s.rstnLow = true) (p : Port) : s.listens p = false := by
  simp [State.listens, low]

/-- While RSTN is low a request at a port changes nothing, whatever its CODE (R193). -/
theorem exec_request_low {i : Instr} {c : Byte} (request : frameOf i = some (p, c, f)) (low : s.rstnLow = true) :
    exec i s = .next s := by
  by_cases unknown : ∀ q d g, i = .unknownCodeRequest q d g → knownCode d = false
  · obtain ⟨use, need, owner, run, -⟩ := exec_request request unknown s
    rw [run, State.takeRequest_deaf (State.deaf_of_low low p), State.shiftOut_idle (.inl low)]
  · push Not at unknown
    obtain ⟨q, d, g, rfl, known⟩ := unknown
    exact congrArg Host.Outcome.next (if_pos (by simpa using known))

theorem State.when_low (low : s.rstnLow = true) (due : Bool) (effect : State → State) : s.when due effect = s := by
  simp [State.when, low]

/-! ### The statements -/

/-- Settles O8: the samples and the Hall edge by their own guard, the ticks by that of `State.when`, the requests by a
port that does not listen. -/
theorem resetHeldTakesNoEvent : Obligations.ResetHeldTakesNoEvent := by
  intro s low
  refine ⟨fun x => ⟨?_, ?_, ?_⟩, fun us => ?_, fun i tick => ?_,
    fun i p c f request => exec_request_low request low, fun a => ?_, ?_, ?_⟩
  · exact congrArg Host.Outcome.next (if_pos low)
  · exact congrArg Host.Outcome.next (if_neg (by simp [low]))
  · exact congrArg Host.Outcome.next (if_neg (by simp [low]))
  · exact congrArg Host.Outcome.next (if_pos low)
  · simp only [List.mem_cons, List.not_mem_nil, or_false] at tick
    obtain rfl | rfl | rfl | rfl | rfl | rfl | rfl | rfl | rfl | rfl | rfl | rfl | rfl | rfl := tick
    all_goals exact congrArg Host.Outcome.next (State.when_low low _ _)
  · exact congrArg Host.Outcome.next (if_neg (by simp [low]))
  · exact congrArg Host.Outcome.next (if_neg (by simp [low]))
  · exact congrArg Host.Outcome.next (if_neg (by simp [low]))

/-- Settles O38: the five ends of a row at a port, with the catalogue's port, length and owner of the CODE. -/
theorem portJudgesRequests : Obligations.PortJudgesRequests := by
  intro i p c f s request unknown
  obtain ⟨use, need, owner, run, cat⟩ := exec_request request unknown s
  dsimp only
  simp only [run]
  have deaf_of_responding : ∀ k, (s.pif p).phase = .responding k → s.listens p = false := fun k phase => by
    simp [State.listens, phase]
  have own_of_not_foreign : ¬ForeignCode p c → use.admits p = true := fun own => by
    simpa using mt cat.port.mpr own
  refine ⟨fun deaf idle => ?_, fun k high phase => ?_, fun listens long => ?_, fun listens fits short => ?_,
    fun listens fits whole => ⟨fun no => ?_, fun foreign => ?_, fun own n member wrong => ?_⟩⟩
  · rw [State.takeRequest_deaf deaf, State.shiftOut_idle idle]
  · rw [State.takeRequest_deaf (deaf_of_responding k phase), State.shiftOut_responding high phase]
  · rw [State.takeRequest_long listens long]; rfl
  · rw [State.takeRequest_partial listens fits short]
  · obtain ⟨rfl, rfl, rfl⟩ := cat.unknown no
    rw [State.takeRequest_reaches listens fits whole rfl rfl]; rfl
  · rw [State.takeRequest_foreign listens fits whole (cat.port.mp foreign)]; rfl
  · rw [State.takeRequest_length listens fits whole (own_of_not_foreign own)]
    · rfl
    · rw [cat.length n member]
      exact fun same => wrong (Option.some.inj same).symm

end Sys2Proof.Machine
end

section
/-!
PROOFS. The bytes of a request frame (R185, R190), the step and its idle period, and the select lines (R186, R196).
-/

namespace Sys2Proof

/-! ### Frames as bytes -/

theorem Word.ofBytes_hi_lo (w : Word) : Word.ofBytes (Word.hi w) (Word.lo w) = w := by
  unfold Word.ofBytes Word.hi Word.lo
  exact BitVec.extractLsb'_append_extractLsb'_eq_extractLsb' (by decide) |>.trans (by simp)

theorem wordsOfBytes_bytesOfWords (ws : List Word) : wordsOfBytes (bytesOfWords ws) = ws := by
  induction ws with
  | nil => rfl
  | cons w ws ih =>
    show Word.ofBytes (Word.hi w) (Word.lo w) :: wordsOfBytes (bytesOfWords ws) = w :: ws
    rw [Word.ofBytes_hi_lo, ih]

/-- What a well-formed frame's bytes give back: all its words, or none behind a LEN byte above 130 (R185, R186). -/
theorem Frame.words_of_wf {f : Frame} (wf : f.wf = true) :
    (if 130 < f.len.toNat then [] else (wordsOfBytes (bytesOfWords f.words)).take f.len.toNat) = f.words := by
  simp only [Frame.wf, Bool.and_eq_true, decide_eq_true_eq, Bool.or_eq_true, List.isEmpty_iff] at wf
  obtain ⟨fits, short | empty⟩ := wf
  · rw [if_neg (by omega), wordsOfBytes_bytesOfWords, List.take_of_length_le fits]
  · rw [empty]
    simp [bytesOfWords, wordsOfBytes]

theorem decodeFrame_of_wf {p : Port} {c : Byte} {f : Frame} (wf : f.wf = true) :
    decodeFrame p (c :: f.len :: bytesOfWords f.words) = some (requestOf c p f) := by
  show some (requestOf c p { len := f.len, words := _ }) = _
  rw [Frame.words_of_wf wf]

theorem Instr.frame_wf {i : Instr} {p : Port} {c : Byte} {f : Frame} (wf : i.wf = true)
    (request : frameOf i = some (p, c, f)) : f.wf = true := by
  unfold Instr.wf at wf
  split at wf
  case h_1 =>
    cases request
    exact (Bool.and_eq_true_iff.mp wf).1
  case h_2 => simpa [request] using wf

/-- The family `Frames` over every command. -/
theorem Laws.Frames.statement (i : Instr) : Statement i := by
  cases i
  case unknownCodeRequest p c f => exact unknownCodeRequest p c f
  all_goals exact fun _ _ _ _ request => by cases request <;> rfl

/-- Settles O4: the bytes give back the CODE, the port and the frame, and these name the request. -/
theorem framesDecodeBack : Obligations.FramesDecodeBack := by
  intro i p bs wf encoded
  obtain ⟨⟨q, c, f⟩, request, same⟩ := Option.map_eq_some_iff.mp encoded
  obtain ⟨rfl, rfl⟩ := Prod.mk.inj same
  rw [decodeFrame_of_wf (i.frame_wf wf request), Laws.Frames.statement i wf q c f request]

namespace Machine

variable {s : State}

/-! ### The step -/

/-- Settles O1, by the second arm of the step. -/
theorem stepRunsFrontCommand : Obligations.StepRunsFrontCommand := by
  intro c rest s front
  unfold step
  rw [front]

/-- Settles O2, by the first arm of the step; the period of a generator is `Pwm.next`. -/
theorem idleStepStartsPwmPeriod : Obligations.IdleStepStartsPwmPeriod := by
  intro s idle
  have period : step s = .next s.pwmPeriod := by
    unfold step
    rw [idle]
  exact period

/-! ### Select lines -/

/-- A response without its four leading bytes. -/
theorem Response.bytes_eq (r : Response) :
    r.bytes = 0 :: 0 :: BitVec.ofNat 8 r.status.code :: BitVec.ofNat 8 r.payload.length ::
      r.payload.flatMap (fun w => [Word.hi w, Word.lo w]) := rfl

theorem Pif.unsent_of_idle {v : Pif} (idle : ∀ k, v.phase ≠ .responding k) : v.unsent = false := by
  unfold Pif.unsent
  split
  case h_1 k r phase _ => exact absurd phase (idle k)
  case h_2 => rfl

theorem Pif.unsent_of_responding {v : Pif} {k : Nat} {r : Response} (phase : v.phase = .responding k)
    (response : v.response = some r) : v.unsent = decide (k < r.bytes.length) := by
  simp [Pif.unsent, phase, response]

theorem Pif.nextByte_of_responding {v : Pif} {k : Nat} {r : Response} (phase : v.phase = .responding k)
    (response : v.response = some r) : v.nextByte = r.bytes.getD k 0 := by
  simp [Pif.nextByte, phase, response]

theorem State.dataOut_driven {p : Port} (high : s.rstnLow = false) (selected : (s.pif p).phase ≠ .released) :
    s.dataOut p = some (s.pif p).nextByte := by
  simp [State.dataOut, State.dataOutDriven, high, selected]

/-- Settles O37: the release by what is unsent, the bytes by the response's layout, the assertion by the phase. -/
theorem selectLineFrames : Obligations.SelectLineFrames := by
  intro p s
  have release : exec (.selectChange p false) s = .next (s.setPif p (s.pif p).deselected) := rfl
  have assertion : exec (.selectChange p true) s =
      .next (s.setPif p { s.pif p with phase := (s.pif p).phase.asserted s.rstnLow }) := rfl
  refine ⟨fun idle => ?_, fun k r phase response => ⟨?_, fun high => ?_⟩, fun high incoming => ?_,
    fun undriven => ?_, fun released => ?_, fun selected => ?_⟩
  · rw [release, Pif.deselected, Pif.unsent_of_idle idle]
    rfl
  · rw [release, Pif.deselected, Pif.unsent_of_responding phase response, response, Response.bytes_eq]
    simp only [List.length_cons, decide_eq_true_eq]
    rw [Nat.add_comm 4]
  · have out : s.dataOut p = some (r.bytes.getD k 0) := by
      rw [State.dataOut_driven high (by simp [phase]), Pif.nextByte_of_responding phase response]
    rw [out, Response.bytes_eq]
    refine ⟨fun filler => ?_, fun status => ?_, fun length => ?_, fun payload => ?_⟩
    · obtain rfl | rfl : k = 0 ∨ k = 1 := by omega
      · rfl
      · rfl
    · subst status; rfl
    · subst length; rfl
    · obtain ⟨n, rfl⟩ := Nat.exists_eq_add_of_le' payload
      rfl
  · rw [State.dataOut_driven high (by obtain phase | phase := incoming <;> simp [phase])]
    obtain phase | phase := incoming <;> simp [Pif.nextByte, phase]
  · obtain low | released := undriven <;> simp [State.dataOut, State.dataOutDriven, *]
  · rw [assertion, released]
    rfl
  · have kept : (s.pif p).phase.asserted s.rstnLow = (s.pif p).phase := by
      unfold PortPhase.asserted
      split
      case h_1 phase => exact absurd phase selected
      case h_2 => rfl
    rw [assertion, kept]
    exact congrArg Host.Outcome.next (s.setPif_pif p)

end Machine
end Sys2Proof
end

section
/-!
PROOFS. The reads (R93, R101, R166, R191), and the requests at a port's results, notices and counters (R175 to R181).
-/

namespace Sys2Proof.Machine

variable {s : State} {p : Port} {f : Frame} {ws : List Word} {owner : Owner}

/-! ### The owner's answer -/

/-- A request of a fixed length on either port, with a payload of that length. -/
theorem State.takeRequest_both {n : Nat} (listens : s.listens p = true) (carries : Carries f ws) (length : ws.length = n) :
    s.takeRequest .both (exactly n) owner p f = (owner p ws s).1.respond p (owner p ws s).2 :=
  State.takeRequest_carried listens carries rfl (by rw [length]; rfl)

/-- The same for what an owner is known to answer. -/
theorem State.takeRequest_answers {n : Nat} {u : State} {r : Response} (listens : s.listens p = true)
    (carries : Carries f ws) (length : ws.length = n) (answers : owner p ws s = (u, r)) :
    s.takeRequest .both (exactly n) owner p f = u.respond p r := by
  rw [State.takeRequest_both listens carries length, answers]

/-! ### GET_STATE and GET_PARAM -/

theorem mul_flagNat (n : Nat) (b : Bool) : n * flagNat b = if b then n else 0 := by
  cases b <;> simp [flagNat]

theorem Entry.word_eq (e : Entry) (active : Bool) :
    e.word active =
      bytesWord e.ticket (e.kind.code + (if e.chain then 16 else 0) + (if active then 32 else 0)) := by
  rw [Entry.word, mul_flagNat, mul_flagNat]

theorem slotWord_some (e : Entry) (active : Bool) :
    slotWord (some e) active =
      bytesWord e.ticket (e.kind.code + (if e.chain then 16 else 0) + (if active then 32 else 0) + 64) := by
  rw [slotWord, mul_flagNat, mul_flagNat]

theorem ownGetState_group {w : Word} {g : StateGroup} (code : StateGroup.ofCode w.toNat = some g) :
    ownGetState p [w] s = (s, { status := .ok, payload := s.groupWords p g }) := by
  show (match StateGroup.ofCode w.toNat with | none => _ | some g => _) = _
  rw [code]

theorem StateGroup.ofCode_none {n : Nat} (outside : 8 ≤ n) : StateGroup.ofCode n = none := by
  unfold StateGroup.ofCode
  split <;> first | omega | rfl

theorem ownGetState_refused {w : Word} (outside : 8 ≤ w.toNat) :
    ownGetState p [w] s = (s, { status := .badValue, payload := [] }) := by
  show (match StateGroup.ofCode w.toNat with | none => _ | some g => _) = _
  rw [StateGroup.ofCode_none outside]
  rfl

theorem ParamId.ofCode_code (q : ParamId) : ParamId.ofCode q.code = some q := by
  cases q <;> rfl

theorem ParamId.code_of_ofCode {n : Nat} {q : ParamId} (listed : ParamId.ofCode n = some q) : n = q.code := by
  unfold ParamId.ofCode at listed
  split at listed <;> first | (cases listed; done) | (obtain rfl := Option.some.inj listed; rfl)

theorem ParamId.ofCode_none {n : Nat} (unlisted : ∀ q, n ≠ ParamId.code q) : ParamId.ofCode n = none :=
  Option.eq_none_iff_forall_not_mem.mpr fun q member => unlisted q (ParamId.code_of_ofCode member)

theorem ownGetParam_listed {w : Word} {q : ParamId} (listed : w.toNat = q.code) :
    ownGetParam p [w] s = (s, { status := .ok, payload := [w, wordOf (s.prm.get q)] }) := by
  have found : ParamId.ofCode w.toNat = some q := by rw [listed, ParamId.ofCode_code]
  show (match ParamId.ofCode w.toNat with | none => _ | some q => _) = _
  rw [found]
  rfl

theorem ownGetParam_refused {w : Word} (unlisted : ∀ q, w.toNat ≠ ParamId.code q) :
    ownGetParam p [w] s = (s, { status := .badValue, payload := [] }) := by
  show (match ParamId.ofCode w.toNat with | none => _ | some q => _) = _
  rw [ParamId.ofCode_none unlisted]
  rfl

/-- The entry words of a queue, place by place (R195). -/
theorem queueWords_eq (q : List Entry) (headActive : Bool) :
    queueWords q headActive =
      (List.range 4).map (fun n =>
        match q[n]? with
        | some e =>
          bytesWord e.ticket
            (e.kind.code + (if e.chain then 16 else 0) + (if headActive && n == 0 then 32 else 0))
        | none => 0) := by
  have place : ∀ (n : Nat) (x : Option Entry),
      (match x with
        | some e => e.word (headActive && n = 0)
        | none => 0) =
      (match x with
        | some e =>
          bytesWord e.ticket
            (e.kind.code + (if e.chain then 16 else 0) + (if headActive && n == 0 then 32 else 0))
        | none => 0 : Word) := by
    intro n x
    cases x with
    | none => rfl
    | some e => exact e.word_eq _
  exact congr (congrArg _ (place 0 _)) (congr (congrArg _ (place 1 _)) (congr (congrArg _ (place 2 _))
    (congrArg (· :: []) (place 3 _))))

/-- Settles O53: each code names its group, whose words stand in the layout of R195. -/
theorem stateAndParamRead : Obligations.StateAndParamRead := by
  intro p f w s listens carries
  have group : ∀ g, StateGroup.ofCode w.toNat = some g →
      exec (.getState p f) s = .next (s.respond p { status := .ok, payload := s.groupWords p g }) := fun g code =>
    congrArg Host.Outcome.next (State.takeRequest_answers listens carries rfl (ownGetState_group code))
  refine ⟨fun code => ?_, fun code => ?_, fun code => ?_, fun code => ?_, fun code => ?_, fun code => ?_,
    fun code => ?_, fun code => ?_, fun outside => ?_, fun q listed => ?_, fun unlisted => ?_⟩
  · rw [group .loops (by rw [code]; rfl)]
    cases fe : s.focus.prevFe <;> simp [State.groupWords, State.loopsWords, wordsOf, flagWord, prevFeWord, fe]
  · exact group .detector (by rw [code]; rfl)
  · exact group .disturbance (by rw [code]; rfl)
  · exact group .spindle (by rw [code]; rfl)
  · exact group .sled (by rw [code]; rfl)
  · rw [group .arbiter (by rw [code]; rfl)]
    cases slot : s.arb.urgent <;>
      simp [State.groupWords, State.arbiterWords, queueWords_eq, flagWord, slotWord_some, slot] <;> rfl
  · exact group .drive (by rw [code]; rfl)
  · exact group .port (by rw [code]; rfl)
  · exact congrArg Host.Outcome.next (State.takeRequest_answers listens carries rfl (ownGetState_refused outside))
  · exact congrArg Host.Outcome.next (State.takeRequest_answers listens carries rfl (ownGetParam_listed listed))
  · exact congrArg Host.Outcome.next (State.takeRequest_answers listens carries rfl (ownGetParam_refused unlisted))

/-! ### The records -/

theorem bytesWord_flags (hi : Nat) (a b : Bool) :
    bytesWord hi (flagNat a + 2 * flagNat b) = bytesWord hi ((if a then 1 else 0) + (if b then 2 else 0)) := by
  rw [mul_flagNat]
  rfl

theorem Dsv.faultWords_none {d : Dsv} (clear : d.record = none) :
    d.faultWords = [bytesWord (if d.lost then 2 else 0) 0, 0, 0, 0, 0] := by
  rw [Dsv.faultWords, clear, mul_flagNat]

theorem Dsv.faultWords_some {d : Dsv} {r : FaultRecord} (latched : d.record = some r) :
    d.faultWords =
      [bytesWord (1 + (if d.lost then 2 else 0) + (if r.active.isSome then 4 else 0)) r.kind.code,
        bytesWord r.drive.code ((r.active.map (fun m => m.kind.code)).getD 0),
        bytesWord ((r.active.map (fun m => portCode m.port)).getD 0) ((r.active.map (fun m => m.ticket)).getD 0),
        wordOf r.trackIndex, wordOf r.period] := by
  rw [Dsv.faultWords, latched]
  simp only [mul_flagNat]

/-- Settles O54: the three reads answer with their layouts. -/
theorem recordsRead : Obligations.RecordsRead := by
  intro p f s listens carries
  have answers : ∀ {owner : Owner} {r : Response}, owner p [] s = (s, r) →
      s.takeRequest .both (exactly 0) owner p f = s.respond p r :=
    fun owned => State.takeRequest_answers listens carries rfl owned
  refine ⟨congrArg Host.Outcome.next (answers ?_), fun clear => congrArg Host.Outcome.next (answers ?_),
    fun r latched => congrArg Host.Outcome.next (answers ?_), congrArg Host.Outcome.next (answers rfl)⟩
  · unfold ownGetPosition State.positionWords
    rw [bytesWord_flags]
  · unfold ownGetFault
    rw [Dsv.faultWords_none clear]
  · unfold ownGetFault
    rw [Dsv.faultWords_some latched]
    rfl

end Sys2Proof.Machine
end

section
/-!
PROOFS. The requests at a port's results, notices and counters (R174 to R181), at the policy and the mark (R146, R152,
R153), and at the fault record (R166).
-/

namespace Sys2Proof.Machine

variable {s : State} {p : Port} {f : Frame} {ws : List Word} {owner : Owner}

/-! ### Requests of one port -/

theorem State.takeRequest_ofP {n : Nat} {u : State} {r : Response} (listens : s.listens .portP = true)
    (carries : Carries f ws) (length : ws.length = n) (answers : owner .portP ws s = (u, r)) :
    s.takeRequest .onlyP (exactly n) owner .portP f = u.respond .portP r := by
  rw [State.takeRequest_carried listens carries rfl (by rw [length]; rfl), answers]

theorem State.takeRequest_ofD {n : Nat} {u : State} {r : Response} (listens : s.listens .portD = true)
    (carries : Carries f ws) (length : ws.length = n) (answers : owner .portD ws s = (u, r)) :
    s.takeRequest .onlyD (exactly n) owner .portD f = u.respond .portD r := by
  rw [State.takeRequest_carried listens carries rfl (by rw [length]; rfl), answers]

/-! ### Results -/

theorem Pif.fill_eq (v : Pif) : v.fill = v.records.length := by
  simp [Pif.fill, Pif.records]

theorem Result.words_eq (r : Result) :
    r.words =
      [bytesWord r.ticket
          (portCode r.port + (if r.urgent then 2 else 0) + (if r.chained then 4 else 0) +
            (if r.anchorBlock.isSome then 8 else 0) + (if r.last then 16 else 0) +
            (if r.measured.isSome then 32 else 0)),
        bytesWord r.kind.code r.outcome.code, wordOf r.trackIndex] ++
        wordsOf ((r.anchorBlock.map (fun b => (b : Int))).getD 0) ++
        [wordOf r.corrections, wordOf r.elapsed, wordOf ((r.measured.map (fun b => (b : Int))).getD 0)] := by
  simp only [Result.words, mul_flagNat]

theorem ownGetResults_eq (s : State) (p : Port) :
    ownGetResults p [] s =
      (if (s.pif p).mode = .holdOff ∧ (s.pif p).fill = 2 then (s.emptyStore p).arbitrate else s.emptyStore p,
        { status := .ok, payload := (s.pif p).resultWords }) := rfl

/-- Settles O49: the answer is the store's records, and the choice follows a full store in HOLD_OFF. -/
theorem resultsReadAndEmptied : Obligations.ResultsReadAndEmptied := by
  intro p f s listens carries
  have answer : (s.pif p).resultWords =
      bytesWord (s.pif p).records.length (s.pif p).dropped :: (s.pif p).records.flatMap Result.words := by
    rw [Pif.resultWords, Pif.fill_eq]
  have words : Result.words = _ := funext Result.words_eq
  rw [words] at answer
  have run := State.takeRequest_answers listens carries rfl (ownGetResults_eq s p)
  rw [answer, Pif.fill_eq] at run
  refine ⟨fun stays => ?_, fun mode full => ?_⟩
  · replace stays : ¬((s.pif p).mode = .holdOff ∧ (s.pif p).records.length = 2) := stays
    rw [if_neg stays] at run
    exact congrArg Host.Outcome.next run
  · replace full : (s.pif p).records.length = 2 := full
    rw [if_pos ⟨mode, full⟩] at run
    exact congrArg Host.Outcome.next run

/-! ### Notices -/

theorem State.attention_respond (s : State) (p q : Port) (r : Response) :
    (s.respond p r).attention q = s.attention q := by
  cases p <;> cases q <;> rfl

theorem State.attention_setPif_other (s : State) (p : Port) (v : Pif) :
    (s.setPif p v).attention (otherPort p) = s.attention (otherPort p) := by
  simp [State.attention]

theorem State.attention_setPif_self (s : State) (p : Port) (v : Pif) :
    (s.setPif p v).attention p = (!s.rstnLow && (v.flags &&& v.mask) != 0) := by
  simp [State.attention]

/-- A word of 12 bits is not 0 exactly where one of its bits is set. -/
theorem bitVec12_ne_zero_iff (x : BitVec 12) : (x != 0) = true ↔ ∃ i < 12, x.getLsbD i = true := by
  rw [bne_iff_ne]
  refine ⟨fun nonzero => ?_, fun ⟨i, _, bit⟩ zero => by simp [zero] at bit⟩
  by_contra none
  push Not at none
  refine nonzero (BitVec.eq_of_getLsbD_eq fun i low => ?_)
  simpa using none i low

/-- Settles O50: the reads and writes of the interface, and the line as a bit that is both set and enabled. -/
theorem noticesReadAndMasked : Obligations.NoticesReadAndMasked := by
  intro p f g w s listens empty carries
  have high : s.rstnLow = false := by
    cases low : s.rstnLow
    · rfl
    · exact absurd (State.deaf_of_low low p) (by simp [listens])
  have read := State.takeRequest_both (owner := ownGetNotices) (n := 0) listens empty rfl
  have written := State.takeRequest_both (owner := ownSetNoticeMask) (n := 1) listens carries rfl
  refine ⟨⟨_, rfl, read, ?_, ?_⟩, ⟨_, rfl, written, ?_, ?_⟩⟩
  · rw [read, State.attention_respond]
    simp [ownGetNotices, State.attention_setPif_self]
  · rw [read, State.attention_respond]
    exact State.attention_setPif_other _ _ _
  · rw [written, State.attention_respond]
    show (s.setPif p { s.pif p with mask := w.setWidth 12 }).attention p = true ↔ _
    rw [State.attention_setPif_self, high, Bool.not_false, Bool.true_and, bitVec12_ne_zero_iff]
    refine exists_congr fun i => and_congr_right fun low => ?_
    simp [low]
  · rw [written, State.attention_respond]
    exact State.attention_setPif_other _ _ _

/-! ### Counters -/

theorem counterView_self (x : BitVec 32) : counterView x x = 0 := by
  simp [counterView, counterDiff]

theorem counterView_eq (x y : BitVec 32) : counterView x y = min (x - y).toNat 65535 := rfl

/-- Settles O51: the view is a saturated difference, and the clearing sets the port's own baselines. -/
theorem countersReadAndCleared : Obligations.CountersReadAndCleared := by
  intro p f w s listens carries
  have written : (ownGetCounters p [w] s).1 =
      s.setPif p { s.pif p with baselines := if w.getLsbD 0 then s.ctb else (s.pif p).baselines } := by
    show (if w.getLsbD 0 then s.setPif p { s.pif p with baselines := s.ctb } else s) = _
    split
    case isTrue => rfl
    case isFalse => exact (s.setPif_pif p).symm
  refine ⟨(ownGetCounters p [w] s).1, congrArg Host.Outcome.next (State.takeRequest_both listens carries rfl), written,
    fun c => ?_, fun clear c => ?_, fun c => ?_⟩
  · dsimp only
    rw [counterView_eq]
    omega
  · simp [written, clear, counterView_self]
  · simp [written]

/-! ### Policy and mode -/

theorem ownSetPolicy_known {w : Word} {v : Policy} (code : Policy.ofCode w.toNat = some v) :
    ownSetPolicy p [w] s =
      (({ s with arb := { s.arb with policy := v } } : State).arbitrate, { status := .ok, payload := [] }) := by
  show (match Policy.ofCode w.toNat with | none => _ | some v => _) = _
  rw [code]
  rfl

theorem Policy.ofCode_none {n : Nat} (outside : 3 ≤ n) : Policy.ofCode n = none := by
  unfold Policy.ofCode
  split <;> first | omega | rfl

theorem ownSetPolicy_refused {w : Word} (outside : 3 ≤ w.toNat) :
    ownSetPolicy p [w] s = (s, { status := .badValue, payload := [] }) := by
  show (match Policy.ofCode w.toNat with | none => _ | some v => _) = _
  rw [Policy.ofCode_none outside]
  rfl

theorem StoreMode.ofCode_none {n : Nat} (outside : 2 ≤ n) : StoreMode.ofCode n = none := by
  unfold StoreMode.ofCode
  split <;> first | omega | rfl

theorem ownSetPortMode_refused {w : Word} (outside : 2 ≤ w.toNat) :
    ownSetPortMode p [w] s = (s, { status := .badValue, payload := [] }) := by
  show (match StoreMode.ofCode w.toNat with | none => _ | some v => _) = _
  rw [StoreMode.ofCode_none outside]
  rfl

/-- Settles O47: each code by its value, with the choice where the change can free a head. -/
theorem policyAndModeWritten : Obligations.PolicyAndModeWritten := by
  intro p f w s carries
  refine ⟨fun listens => ⟨fun v code => ?_, fun outside => ?_⟩,
    fun listens => ⟨fun code => ?_, fun code => ?_, fun outside => ?_⟩⟩
  · exact congrArg Host.Outcome.next (State.takeRequest_ofD listens carries rfl (ownSetPolicy_known code))
  · exact congrArg Host.Outcome.next (State.takeRequest_ofD listens carries rfl (ownSetPolicy_refused outside))
  · subst code
    exact congrArg Host.Outcome.next (State.takeRequest_both listens carries rfl)
  · subst code
    exact congrArg Host.Outcome.next (State.takeRequest_both listens carries rfl)
  · exact congrArg Host.Outcome.next (State.takeRequest_answers listens carries rfl (ownSetPortMode_refused outside))

/-! ### The mark -/

theorem State.markFor_some {b : Nat} {n : Int} (anchored : s.pru.anchor.isSome = true)
    (track : s.pru.zones.trackOf b = some n) (near : (n - s.pru.trackIndex).natAbs ≤ s.prm.anchorTol) :
    s.markFor b = some { block := b, track := n } := by
  obtain ⟨a, anchor⟩ := Option.isSome_iff_exists.mp anchored
  simp [State.markFor, anchor, track, State.withinTol, near]

theorem State.markFor_none {b : Nat}
    (unfit : s.pru.anchor = none ∨ s.pru.zones.trackOf b = none ∨
      ∃ n, s.pru.zones.trackOf b = some n ∧ s.prm.anchorTol < (n - s.pru.trackIndex).natAbs) :
    s.markFor b = none := by
  unfold State.markFor
  split
  case h_1 a n anchor track =>
    obtain absent | untracked | ⟨k, other, far⟩ := unfit
    · rw [absent] at anchor; cases anchor
    · rw [untracked] at track; cases track
    · obtain rfl : n = k := Option.some.inj (track.symm.trans other)
      refine if_neg ?_
      simp only [State.withinTol, decide_eq_true_eq]
      omega
  case h_2 => rfl

theorem ownMark_taken {h l : Word} {m : Mark}
    (fits : s.markFor (min (DWord.ofWords h l).toNat 449999) = some m) :
    ownMark p [h, l] s =
      ({ s with arb := { s.arb with mark := some m } },
        { status := clampedStatus (blockClamped (DWord.ofWords h l).toNat)
          payload := wordsOf m.block ++ [wordOf m.track] }) := by
  show (match s.markFor (min (DWord.ofWords h l).toNat 449999) with | none => _ | some m => _) = _
  rw [fits]
  rfl

theorem ownMark_refused {h l : Word} (unfit : s.markFor (min (DWord.ofWords h l).toNat 449999) = none) :
    ownMark p [h, l] s = (s, { status := .notReady, payload := [] }) := by
  show (match s.markFor (min (DWord.ofWords h l).toNat 449999) with | none => _ | some m => _) = _
  rw [unfit]
  rfl

/-- The status of a block that may lie above the last one (R94, R152). -/
theorem blockStatus_eq (x : Nat) :
    clampedStatus (blockClamped x) = if 449999 < x then .clamped else .ok := by
  by_cases above : 449999 < x <;> simp [clampedStatus, blockClamped, Config.maxBlock, above]

/-- A mark cleared without a notice, whether one stood or not (R153). -/
theorem State.clearMark_silent (s : State) : s.clearMark false = { s with arb := { s.arb with mark := none } } := by
  unfold State.clearMark
  split
  case h_1 absent => rw [← absent]
  case h_2 => rfl

/-- Settles O48: MARK by what `State.markFor` finds, and UNMARK by the clearing without a notice. -/
theorem markSetAndCleared : Obligations.MarkSetAndCleared := by
  intro f g h l s listens carries empty
  refine ⟨fun n anchored track near => ?_, fun unfit => ?_, ?_⟩
  · refine congrArg Host.Outcome.next
      ((State.takeRequest_ofP listens carries rfl (ownMark_taken (State.markFor_some anchored track near))).trans ?_)
    rw [blockStatus_eq]
  · exact congrArg Host.Outcome.next
      (State.takeRequest_ofP listens carries rfl (ownMark_refused (State.markFor_none unfit)))
  · refine congrArg Host.Outcome.next ((State.takeRequest_ofP (n := 0) listens empty rfl rfl).trans ?_)
    rw [State.clearMark_silent]
    rfl

/-! ### The fault record -/

/-- A change to a drive state with no anchor and no mark to lose, and no holding jump to end (R157). -/
theorem State.setDrive_plain {d : DriveState} (change : d ≠ s.dsv.drive) (unanchored : s.pru.anchor = none)
    (unmarked : s.arb.mark = none) (standing : s.dsv.drive ≠ .holding) :
    s.setDrive d = ({ s with dsv := { s.dsv with drive := d } } : State).raiseBoth .driveState := by
  have settled : ∀ u : State, u.pru = s.pru → u.arb = s.arb → u.settle d = u := fun u pru arb => by
    simp [State.settle, State.dropAnchor, State.clearMark, pru, arb, unanchored, unmarked]
  unfold State.setDrive
  rw [if_neg change, settled _ (by simp) (by simp), State.leaveDrive, if_neg standing]

theorem State.clearRecord_none (clear : s.dsv.record = none) : s.clearRecord = s := by
  unfold State.clearRecord
  rw [clear]

theorem State.clearRecord_some {r : FaultRecord} (latched : s.dsv.record = some r) :
    s.clearRecord =
      if s.dsv.drive = .faulted then
        ({ s with dsv := { s.dsv with record := none, lost := false } } : State).setDrive
          (if s.dsv.clamp = .clamped then .idle else .noDisc)
      else { s with dsv := { s.dsv with record := none, lost := false } } := by
  unfold State.clearRecord
  split
  case h_1 clear => rw [clear] at latched; cases latched
  case h_2 => rfl

/-- Settles O60: the three cases of `State.clearRecord`. -/
theorem faultCleared : Obligations.FaultCleared := by
  intro p f s listens carries
  have run : exec (.clearFault p f) s = .next (s.clearRecord.respond p { status := .ok, payload := [] }) :=
    congrArg Host.Outcome.next (State.takeRequest_both listens carries rfl)
  refine ⟨fun clear => ?_, fun r latched standing => ?_, fun r latched faulted unanchored unmarked => ?_⟩
  · rw [run, State.clearRecord_none clear]
  · rw [run, State.clearRecord_some latched, if_neg standing]
  · rw [run, State.clearRecord_some latched, if_pos faulted, State.setDrive_plain ?_ ?_ ?_ ?_]
    · show (if s.dsv.clamp = .clamped then DriveState.idle else .noDisc) ≠ s.dsv.drive
      rw [faulted]
      split <;> decide
    · exact unanchored
    · exact unmarked
    · show s.dsv.drive ≠ .holding
      rw [faulted]
      decide

end Sys2Proof.Machine
end

section
/-!
PROOFS. The submission (R136, R137) with the ticket that it takes, and the choice's candidate (R143, R144).
-/

namespace Sys2Proof.Machine

variable {s : State} {p : Port}

/-! ### Tickets -/

/-- A search that ends on a held ticket has met held tickets alone. -/
theorem freeTicket_held {held : List Nat} {n c : Nat} (low : c < 8) (taken : freeTicket held n c ∈ held) :
    ∀ i ≤ n, (c + i) % 8 ∈ held := by
  induction n generalizing c with
  | zero =>
    intro i none
    obtain rfl : i = 0 := by omega
    rwa [Nat.add_zero, Nat.mod_eq_of_lt low]
  | succ n ih =>
    unfold freeTicket at taken
    split at taken
    case isFalse free => exact absurd taken (by simpa using free)
    case isTrue here =>
      have later := ih (Nat.mod_lt _ (by decide)) taken
      intro i within
      cases i with
      | zero => rw [Nat.add_zero, Nat.mod_eq_of_lt low]; simpa using here
      | succ i =>
        have next : ((c + 1) % 8 + i) % 8 ∈ held := later i (by omega)
        rwa [Nat.mod_add_mod, Nat.add_assoc, Nat.add_comm 1] at next

theorem freeTicket_lt {held : List Nat} {n c : Nat} (low : c < 8) : freeTicket held n c < 8 := by
  induction n generalizing c with
  | zero => exact low
  | succ n ih =>
    unfold freeTicket
    split
    case isTrue => exact ih (Nat.mod_lt _ (by decide))
    case isFalse => exact low

/-- Fewer than 8 held tickets leave one free. -/
theorem freeTicket_free {held : List Nat} {c : Nat} (low : c < 8) (few : held.length < 8) :
    freeTicket held 8 c ∉ held := by
  intro taken
  have all : List.range 8 ⊆ held := by
    intro k within
    have here := freeTicket_held low taken ((k + 8 - c) % 8) (by omega)
    rwa [show (c + (k + 8 - c) % 8) % 8 = k by have := List.mem_range.mp within; omega] at here
  have count := (List.nodup_range.subperm all).length_le
  rw [List.length_range] at count
  omega

theorem State.heldTickets_length (s : State) (p : Port) : (s.heldTickets p).length ≤ (s.queueOf p).length + 1 := by
  unfold State.heldTickets
  cases p
  · simp
  · cases s.arb.urgent <;> simp

theorem State.nextTicket_lt (s : State) (p : Port) : s.nextTicket p < 8 :=
  freeTicket_lt (Nat.mod_lt _ (by decide))

theorem State.nextTicket_free (room : (s.queueOf p).length < 4) : s.nextTicket p ∉ s.heldTickets p := by
  have few := s.heldTickets_length p
  exact freeTicket_free (Nat.mod_lt _ (by decide)) (by omega)

/-! ### The submission's words -/

/-- The submission of a kind that three words carry. -/
def submitted (k : MoveKind) (w h l : Word) : Submission :=
  { kind := k, arg := (DWord.ofWords h l).toInt, chain := w.getLsbD 0, urgent := w.getLsbD 1 }

theorem submissionOf_known {w h l : Word} {k : MoveKind} (kind : MoveKind.ofCode (Word.hi w).toNat = some k) :
    submissionOf [w, h, l] = some (submitted k w h l) := by
  show (MoveKind.ofCode (Word.hi w).toNat).map _ = _
  rw [kind]
  rfl

theorem MoveKind.ofCode_none {n : Nat} (outside : 10 ≤ n) : MoveKind.ofCode n = none := by
  unfold MoveKind.ofCode
  split <;> first | omega | rfl

theorem submissionOf_unknown {w h l : Word} (outside : 10 ≤ (Word.hi w).toNat) : submissionOf [w, h, l] = none := by
  show (MoveKind.ofCode (Word.hi w).toNat).map _ = _
  rw [MoveKind.ofCode_none outside]
  rfl

/-! ### The refusals -/

theorem ownSubmit_unknown {ws : List Word} (unknown : submissionOf ws = none) :
    ownSubmit p ws s = (s, { status := .badValue, payload := [] }) := by
  unfold ownSubmit
  rw [unknown]
  rfl

theorem ownSubmit_refused {ws : List Word} {x : Submission} {c : Status} (known : submissionOf ws = some x)
    (refused : s.submitRefusal p x = some c) : ownSubmit p ws s = (s, { status := c, payload := [] }) := by
  unfold ownSubmit
  rw [known]
  dsimp only
  rw [refused]
  rfl

theorem ownSubmit_accepted {ws : List Word} {x : Submission} (known : submissionOf ws = some x)
    (accepted : s.submitRefusal p x = none) :
    ownSubmit p ws s =
      (s.acceptSubmission p x,
        { status := .accepted
          payload :=
            [bytesWord (s.nextTicket p) ((s.acceptSubmission p x).queueOf p).length,
              flagWord (x.kind.argClamped x.arg)] }) := by
  unfold ownSubmit
  rw [known]
  dsimp only
  rw [accepted]

section Refusal

variable {x : Submission}

/-- Step 2 of R137. -/
theorem State.submitRefusal_foreign
    (foreign : (p = .portD ∧ x.kind = .resumeMark) ∨ (p = .portP ∧ x.urgent = true)) :
    s.submitRefusal p x = some .notThisPort := if_pos foreign

/-- Step 3 of R137. -/
theorem State.submitRefusal_unfit
    (own : ¬((p = .portD ∧ x.kind = .resumeMark) ∨ (p = .portP ∧ x.urgent = true)))
    (unfit : x.urgent = true ∧ x.kind.urgentKind = false) : s.submitRefusal p x = some .badValue := by
  unfold State.submitRefusal
  rw [if_neg own, if_pos unfit]

/-- Step 5 of R137, of an urgent submission. -/
theorem State.submitRefusal_urgent
    (own : ¬((p = .portD ∧ x.kind = .resumeMark) ∨ (p = .portP ∧ x.urgent = true))) (urgent : x.urgent = true)
    (fit : x.kind.urgentKind = true) :
    s.submitRefusal p x = if s.arb.urgent.isSome then some .slotBusy else none := by
  unfold State.submitRefusal
  rw [if_neg own, if_neg (by simp [fit]), if_pos urgent]

/-- Step 5 of R137, of a submission in line. -/
theorem State.submitRefusal_inLine
    (own : ¬((p = .portD ∧ x.kind = .resumeMark) ∨ (p = .portP ∧ x.urgent = true))) (inLine : x.urgent = false) :
    s.submitRefusal p x = if 4 ≤ (s.queueOf p).length then some .queueFull else none := by
  unfold State.submitRefusal
  rw [if_neg own, if_neg (by simp [inLine]), if_neg (by simp [inLine])]
  rfl

end Refusal

theorem MoveKind.urgentKind_iff (k : MoveKind) : k.urgentKind = true ↔ k = .stop ∨ k = .park ∨ k = .hold := by
  cases k <;> simp [MoveKind.urgentKind]

/-- Settles O40: the steps of R137 by one lemma each. -/
theorem submitRefusedInOrder : Obligations.SubmitRefusedInOrder := by
  intro p f w h l s listens carries
  have refused : ∀ {c : Status}, ownSubmit p [w, h, l] s = (s, { status := c, payload := [] }) →
      exec (.submit p f) s = .next (s.respond p { status := c, payload := [] }) :=
    fun owned => congrArg Host.Outcome.next (State.takeRequest_answers listens carries rfl owned)
  refine ⟨fun outside => refused (ownSubmit_unknown (submissionOf_unknown outside)), fun k kind => ?_⟩
  have known := submissionOf_known (h := h) (l := l) kind
  refine ⟨fun foreign => ?_, fun own unfit => ?_, fun own fit urgent busy => ?_, fun own inLine full => ?_⟩
  · exact refused (ownSubmit_refused known (State.submitRefusal_foreign foreign))
  · obtain ⟨urgent, other⟩ := unfit
    refine refused (ownSubmit_refused known (State.submitRefusal_unfit own ⟨urgent, ?_⟩))
    simpa [submitted, ← MoveKind.urgentKind_iff] using mt (MoveKind.urgentKind_iff k).mp (by tauto)
  · have kind : k.urgentKind = true := (MoveKind.urgentKind_iff k).mpr (by tauto)
    refine refused (ownSubmit_refused known ?_)
    rw [State.submitRefusal_urgent own urgent kind, if_pos (Option.isSome_iff_ne_none.mpr busy)]
  · refine refused (ownSubmit_refused known ?_)
    rw [State.submitRefusal_inLine own (eq_false_of_ne_true inLine), if_pos full]

/-! ### The accepted submission -/

theorem MoveKind.argOf_eq (k : MoveKind) (x : Int) :
    k.argOf x =
      match k with
      | .jump => some (max (-64) (min x 64))
      | .seekTrack => some (max (-22000) (min x 22000))
      | .seekBlock => some (max 0 (min x 449999))
      | _ => none := by
  cases k
  case jump => exact congrArg some (clampI_eq_max_min (by decide) x)
  case seekTrack => exact congrArg some (clampI_eq_max_min (by decide) x)
  case seekBlock => exact congrArg some (clampI_eq_max_min (by decide) x)
  all_goals rfl

/-- The clamped flag of an answer says that the argument taken in is not the one sent. -/
theorem MoveKind.argClamped_eq (k : MoveKind) (x : Int) :
    k.argClamped x = (k.argOf x).any (fun a => decide (a ≠ x)) := by
  unfold MoveKind.argClamped MoveKind.argOf
  cases range : k.argRange with
  | none => rfl
  | some r =>
    have rises : r.1 ≤ r.2 := by
      cases k <;> simp only [MoveKind.argRange, Option.some.injEq, reduceCtorEq] at range <;> subst range <;> decide
    refine Bool.eq_iff_iff.mpr ?_
    simp only [Option.any_some, Option.map_some, Bool.or_eq_true, decide_eq_true_eq]
    rw [clampI_eq_max_min rises]
    omega

/-- A submission in line joins the tail of its port's queue (R136, R137 step 6). -/
theorem State.enqueue_inLine {x : Submission} (inLine : x.urgent = false) :
    s.enqueue p x =
      (s.setPif p { s.pif p with ticket := (s.nextTicket p + 1) % 8 }).setQueue p
        (s.queueOf p ++ [s.entryOf p x]) := by
  unfold State.enqueue
  simp only [inLine, (s.setPif_parts p _).2]
  rfl

theorem State.queueOf_setQueue (s : State) (p : Port) (q : List Entry) : (s.setQueue p q).queueOf p = q := by
  cases p <;> rfl

theorem State.pickupFree_setQueue (s : State) (p : Port) (q : List Entry) :
    (s.setQueue p q).pickupFree = s.pickupFree := by
  cases p <;> rfl

theorem State.pickupFree_setPif (s : State) (p : Port) (v : Pif) : (s.setPif p v).pickupFree = s.pickupFree := by
  cases p <;> rfl

/-- Settles O39: the ticket is a free one, and with the pickup in use no grant follows the arrival. -/
theorem submitJoinsQueue : Obligations.SubmitJoinsQueue := by
  intro p f w h l k s listens carries kind inLine own room busy
  refine ⟨s.nextTicket p, s.nextTicket_lt p, State.nextTicket_free room, ?_⟩
  have known := submissionOf_known (h := h) (l := l) kind
  have accepted : s.submitRefusal p (submitted k w h l) = none := by
    have notUrgent : ¬(p = .portP ∧ w.getLsbD 1 = true) := fun ⟨_, urgent⟩ => by rw [inLine] at urgent; cases urgent
    rw [State.submitRefusal_inLine (not_or.mpr ⟨own, notUrgent⟩) inLine, if_neg (by omega)]
  have joined : s.acceptSubmission p (submitted k w h l) = s.enqueue p (submitted k w h l) := by
    have stays : (s.enqueue p (submitted k w h l)).pickupFree = false := by
      rw [State.enqueue_inLine inLine, State.pickupFree_setQueue, State.pickupFree_setPif, busy]
    unfold State.acceptSubmission
    dsimp only
    have plain : ¬(submitted k w h l).urgent = true := ne_true_of_eq_false inLine
    rw [if_neg plain, State.arbitrate_busy stays]
  refine congrArg Host.Outcome.next
    ((State.takeRequest_answers listens carries rfl (ownSubmit_accepted known accepted)).trans ?_)
  rw [joined, State.enqueue_inLine inLine, State.queueOf_setQueue, List.length_append, MoveKind.argClamped_eq]
  unfold State.entryOf
  rw [MoveKind.argOf_eq]
  cases k <;> rfl

/-! ### The candidate -/

/-- A store that holds no grant back (R143). -/
theorem Pif.open_iff (v : Pif) :
    ¬(v.mode = .holdOff ∧ v.fill = 2) ↔ ¬(v.mode = .holdOff ∧ v.older.isSome = true ∧ v.newer.isSome = true) := by
  refine not_congr (and_congr_right fun _ => ?_)
  cases older : v.older <;> cases newer : v.newer <;> simp [Pif.fill, older, newer]

theorem State.eligibleHead_open (free : ¬((s.pif p).mode = .holdOff ∧ (s.pif p).fill = 2)) :
    s.eligibleHead p = (s.queueOf p).head? := if_neg free

theorem State.eligibleHead_shut (full : (s.pif p).mode = .holdOff ∧ (s.pif p).fill = 2) :
    s.eligibleHead p = none := if_pos full

/-- Without a waiting urgent entry the continuation comes first, and then the policy (R144). -/
theorem State.candidate_inLine (none : s.arb.urgentWaiting = false) :
    s.candidate = s.continuation.or s.byPolicy := by
  unfold State.candidate
  split
  case h_1 waits _ => rw [none] at waits; cases waits
  case h_2 => cases s.continuation <;> rfl

theorem State.continuation_unclaimed (free : s.arb.claim = .none) : s.continuation = none := by
  simp [State.continuation, free]

theorem State.continuation_ofP (claim : s.arb.claim = .queueP) (policy : s.arb.policy ≠ .deckStrong)
    (run : s.arb.run < 4) :
    s.continuation =
      (s.eligibleHead .portP).map (fun e => { source := .queueP, entry := e, run := s.arb.run + 1 }) := by
  simp [State.continuation, Config.chainLimit, claim, policy, run]

/-- Under DECK_STRONG an eligible Port D head stands before a claim of Port P (R144). -/
theorem State.continuation_overruled {e : Entry} (claim : s.arb.claim = .queueP) (policy : s.arb.policy = .deckStrong)
    (head : s.eligibleHead .portD = some e) : s.continuation = none := by
  simp [State.continuation, claim, policy, head]

theorem State.continuation_ofD (claim : s.arb.claim = .queueD) (run : s.arb.run < 4) :
    s.continuation =
      (s.eligibleHead .portD).map (fun e => { source := .queueD, entry := e, run := s.arb.run + 1 }) := by
  simp [State.continuation, Config.chainLimit, claim, run]

/-- Settles O44: the urgent entry first, then the claim, then the heads that are eligible, by the policy. -/
theorem choiceByUrgencyClaimAndPolicy : Obligations.ChoiceByUrgencyClaimAndPolicy := by
  intro s a b qp qd
  dsimp only
  intro queueP queueD
  simp only [← Pif.open_iff]
  have headP : s.pifP.mode = .holdOff ∧ s.pifP.fill = 2 ∨ s.eligibleHead .portP = some a := by
    refine or_iff_not_imp_left.mpr fun free => ?_
    rw [State.eligibleHead_open (p := .portP) free, State.queueOf, queueP, List.head?_cons]
  have headD : s.pifD.mode = .holdOff ∧ s.pifD.fill = 2 ∨ s.eligibleHead .portD = some b := by
    refine or_iff_not_imp_left.mpr fun free => ?_
    rw [State.eligibleHead_open (p := .portD) free, State.queueOf, queueD, List.head?_cons]
  refine ⟨fun e waits urgent => by simp [State.candidate, waits, urgent], fun none freeP freeD => ?_,
    fun none shutP freeD free => ?_, fun none freeP shutD free => ?_, fun none shutP shutD => ?_⟩
  · replace headP := headP.resolve_left freeP
    replace headD := headD.resolve_left freeD
    rw [State.candidate_inLine none]
    refine ⟨fun free policy => ?_, fun free policy => ?_, fun claim policy run => ?_, fun claim policy => ?_,
      fun claim run => ?_⟩
    · simp [State.continuation_unclaimed free, State.byPolicy, headP, headD, policy]
    · simp [State.continuation_unclaimed free, State.byPolicy, headP, headD, policy]
    · simp [State.continuation_ofP claim policy run, headP]
    · simp [State.continuation_overruled claim policy headD, State.byPolicy, headP, headD, policy]
    · simp [State.continuation_ofD claim run, headD]
  · replace headP := State.eligibleHead_shut (p := .portP) (not_not.mp shutP)
    replace headD := headD.resolve_left freeD
    simp [State.candidate_inLine none, State.continuation_unclaimed free, State.byPolicy, headP, headD]
  · replace headP := headP.resolve_left freeP
    replace headD := State.eligibleHead_shut (p := .portD) (not_not.mp shutD)
    simp [State.candidate_inLine none, State.continuation_unclaimed free, State.byPolicy, headP, headD]
  · replace headP := State.eligibleHead_shut (p := .portP) (not_not.mp shutP)
    replace headD := State.eligibleHead_shut (p := .portD) (not_not.mp shutD)
    have noClaim : s.continuation = Option.none := by
      unfold State.continuation
      split
      case isFalse => rfl
      case isTrue => cases s.arb.claim <;> simp [headP, headD]
    simp [State.candidate_inLine none, noClaim, State.byPolicy, headP, headD]

end Sys2Proof.Machine
end

section
/-!
PROOFS. SET_PARAM (R191) with what SF and KCLV do at once (R63, R71), and ZONE_SET (R91, R92).
-/

namespace Sys2Proof.Machine

variable {s : State} {p : Port} {q : ParamId}

/-! ### The value -/

theorem ParamId.valueOf_eq (q : ParamId) (w : Word) :
    q.valueOf w = if q.lo < 0 then w.toInt else (w.toNat : Int) := by
  by_cases signed : q.lo < 0 <;> simp [ParamId.valueOf, ParamId.signed, signed]

theorem ParamId.refuses_iff (q : ParamId) (x : Int) :
    q.refuses x = true ↔ q = .sf ∧ x ≠ 1 ∧ x ≠ 2 ∧ x ≠ 4 := by
  simp [ParamId.refuses, and_assoc]

theorem ownSetParam_unlisted {w v : Word} (unlisted : ∀ q, w.toNat ≠ ParamId.code q) :
    ownSetParam p [w, v] s = (s, { status := .badValue, payload := [] }) := by
  show (match ParamId.ofCode w.toNat with | none => _ | some q => _) = _
  rw [ParamId.ofCode_none unlisted]
  rfl

theorem ownSetParam_listed {w v : Word} (listed : w.toNat = q.code) :
    ownSetParam p [w, v] s =
      if q.refuses (q.valueOf v) then refuse s .badValue
      else
        (s.writeParam q (clampI q.lo q.hi (q.valueOf v)),
          { status := clampedStatus (clampI q.lo q.hi (q.valueOf v) ≠ q.valueOf v)
            payload := [w, wordOf (clampI q.lo q.hi (q.valueOf v))] }) := by
  have found : ParamId.ofCode w.toNat = some q := by rw [listed, ParamId.ofCode_code]
  show (match ParamId.ofCode w.toNat with | none => _ | some q => _) = _
  rw [found]
  rfl

/-! ### The write -/

theorem State.writeParam_other {v : Int} (notSf : q ≠ .sf) (notKclv : q ≠ .kclv) :
    s.writeParam q v = { s with prm := s.prm.set q v } := by
  unfold State.writeParam
  split
  case h_1 => exact absurd rfl notSf
  case h_2 => exact absurd rfl notKclv
  case h_3 => rfl

theorem State.relock_frame (s : State) (changed : Bool) :
    s.relock changed = { s with spc := (s.relock changed).spc } := by
  unfold State.relock
  split <;> rfl

theorem State.writeParam_frame (s : State) (q : ParamId) (v : Int) :
    s.writeParam q v = { s with prm := s.prm.set q v, spc := (s.writeParam q v).spc } := by
  unfold State.writeParam
  split
  case h_1 => exact State.relock_frame _ _
  case h_2 => rfl
  case h_3 => rfl

theorem State.writeParam_prm (s : State) (q : ParamId) (v : Int) : (s.writeParam q v).prm = s.prm.set q v :=
  congrArg State.prm (s.writeParam_frame q v)

/-- SF written: the target period, and the lock (R63, R71). -/
theorem State.writeParam_sf_spc (s : State) (v : Int) :
    (s.writeParam .sf v).spc =
      let c : Spc := { s.spc with target := targetPeriod s.pru.trackIndex (s.prm.set .sf v).sf s.prm.kclv }
      if (s.prm.set .sf v).sf ≠ s.prm.sf ∧ s.spc.state = .locked then
        { c with state := .locking, inRun := 0, outRun := 0, spinTimer := { count := 0, running := true } }
      else c := by
  show (State.relock _ (decide (s.prm.sf ≠ _))).spc = _
  unfold State.relock
  simp only [decide_eq_true_eq, ne_comm (a := s.prm.sf)]
  split
  case isTrue change => exact (if_pos (c := (s.prm.set .sf v).sf ≠ s.prm.sf ∧ s.spc.state = .locked) change).symm
  case isFalse stays => exact (if_neg (c := (s.prm.set .sf v).sf ≠ s.prm.sf ∧ s.spc.state = .locked) stays).symm

theorem Params.get_set_clamped (m : Params) (q r : ParamId) (x : Int) :
    (m.set q (clampI q.lo q.hi x)).get r = if r = q then clampI q.lo q.hi x else m.get r :=
  m.get_set q r _ fun unsigned => (q.lo_nonneg unsigned).trans (clampI_range q.span x).1

/-- Settles O55: the value by its range, and the spindle's part of the write for SF and KCLV. -/
theorem parameterWritten : Obligations.ParameterWritten := by
  intro f w v s listens carries
  refine ⟨fun unlisted => congrArg Host.Outcome.next
    (State.takeRequest_ofD listens carries rfl (ownSetParam_unlisted unlisted)), fun q listed => ?_⟩
  dsimp only
  rw [← ParamId.valueOf_eq, ← clampI_eq_max_min q.span]
  have answer := ownSetParam_listed (p := .portD) (s := s) (v := v) listed
  generalize value : q.valueOf v = x at answer ⊢
  have prm := s.writeParam_prm q (clampI q.lo q.hi x)
  refine ⟨fun sf not1 not2 not4 => ?_, fun taken => ⟨s.writeParam q (clampI q.lo q.hi x), ?_,
    by rw [prm]; exact s.writeParam_frame q _, ?_, fun r other => ?_, fun notSf notKclv => ?_,
    fun speed => ?_, fun stays => ?_, fun sf change locked => ?_⟩⟩
  · rw [if_pos ((q.refuses_iff x).mpr ⟨sf, not1, not2, not4⟩)] at answer
    exact congrArg Host.Outcome.next (State.takeRequest_ofD listens carries rfl answer)
  · have accepted : ¬q.refuses x = true := by
      rw [ParamId.refuses_iff]
      tauto
    rw [if_neg accepted] at answer
    refine congrArg Host.Outcome.next ((State.takeRequest_ofD listens carries rfl answer).trans ?_)
    by_cases same : clampI q.lo q.hi x = x <;> simp [clampedStatus, same]
  · rw [prm, Params.get_set_clamped, if_pos rfl]
  · rw [prm, Params.get_set_clamped, if_neg other]
  · rw [State.writeParam_other notSf notKclv]
  · rw [prm]
    obtain rfl | rfl := speed
    · rw [State.writeParam_sf_spc]
      dsimp only
      split
      case isTrue => exact ⟨rfl, rfl⟩
      case isFalse => exact ⟨rfl, rfl⟩
    · exact ⟨rfl, rfl⟩
  · rw [prm] at stays
    obtain rfl | ⟨rfl, kept⟩ := stays
    · rfl
    · rw [State.writeParam_sf_spc, if_neg (by tauto)]
  · subst sf
    rw [prm] at change
    rw [State.writeParam_sf_spc, if_pos ⟨change, locked⟩]

/-! ### Zone tables -/

/-- R91's points 5 and 6, of every two entries that follow one another. -/
theorem zonesRise_iff (es : List ZoneEntry) :
    zonesRise es = true ↔
      ∀ pre e g post, es = pre ++ e :: g :: post → e.firstBlock < g.firstBlock ∧ e.firstTrack < g.firstTrack := by
  induction es with
  | nil => simp [zonesRise]
  | cons e es ih =>
    cases es with
    | nil =>
      refine iff_of_true rfl fun pre e' g post split => ?_
      have length := congrArg List.length split
      simp only [List.length_cons, List.length_nil, List.length_append] at length
      omega
    | cons g es =>
      simp only [zonesRise, Bool.and_eq_true, decide_eq_true_eq, ih]
      refine ⟨fun ⟨first, rest⟩ pre e' g' post split => ?_, fun all => ⟨all [] e g es rfl, ?_⟩⟩
      · cases pre with
        | nil => cases split; exact first
        | cons x pre => exact rest pre e' g' post (List.cons.inj split).2
      · exact fun pre e' g' post split => all (e :: pre) e' g' post (congrArg (e :: ·) split)

theorem getLast?_any_iff (es : List ZoneEntry) (ok : ZoneEntry → Bool) (some' : 1 ≤ es.length) :
    es.getLast?.any ok = true ↔ ∀ pre e, es = pre ++ [e] → ok e = true := by
  obtain ⟨pre, e, rfl⟩ : ∃ pre e, es = pre ++ [e] :=
    ⟨es.dropLast, es.getLast (by rintro rfl; simp at some'), (List.dropLast_append_getLast _).symm⟩
  rw [List.getLast?_concat, Option.any_some]
  refine ⟨fun holds pre' e' split => ?_, fun all => all pre e rfl⟩
  obtain ⟨-, last⟩ := List.append_inj' split rfl
  rwa [← (List.cons.inj last).1]

/-- The seven points of R91. -/
theorem ZoneTable.valid_iff (z : ZoneTable) :
    z.valid = true ↔
      1 ≤ z.entries.length ∧ z.entries.length ≤ 32 ∧ (∀ e ∈ z.entries, e.firstBlock ≤ 449999) ∧ z.endBlock ≤ 449999 ∧
        (∀ e ∈ z.entries, e.firstTrack ≤ 21999) ∧ (∀ e ∈ z.entries, 1024 ≤ e.bpt256 ∧ e.bpt256 ≤ 7168) ∧
        (∀ pre e g post, z.entries = pre ++ e :: g :: post →
          e.firstBlock < g.firstBlock ∧ e.firstTrack < g.firstTrack) ∧
        (∀ pre e, z.entries = pre ++ [e] → e.firstBlock ≤ z.endBlock) := by
  have tracks : (∀ e ∈ z.entries, (e.firstTrack : Int) ≤ Config.maxTrack) ↔ ∀ e ∈ z.entries, e.firstTrack ≤ 21999 :=
    forall₂_congr fun e _ => by unfold Config.maxTrack; omega
  have last : ∀ some' : 1 ≤ z.entries.length, (z.entries.getLast?.any fun e => e.firstBlock ≤ z.endBlock) = true ↔
      ∀ pre e, z.entries = pre ++ [e] → e.firstBlock ≤ z.endBlock := fun some' => by
    simpa using getLast?_any_iff z.entries (fun e => e.firstBlock ≤ z.endBlock) some'
  unfold ZoneTable.valid
  simp only [Bool.and_eq_true, decide_eq_true_iff, List.all_eq_true, zonesRise_iff, tracks]
  constructor
  · rintro ⟨⟨⟨⟨⟨⟨one, most⟩, blocks, final⟩, track⟩, pitch⟩, rise⟩, held⟩
    exact ⟨one, most, blocks, final, track, pitch, rise, (last one).mp held⟩
  · rintro ⟨one, most, blocks, final, track, pitch, rise, held⟩
    exact ⟨⟨⟨⟨⟨⟨one, most⟩, blocks, final⟩, track⟩, pitch⟩, rise⟩, (last one).mpr held⟩

/-! ### The replacement -/

theorem State.formEstimate_found {a : Anchor} {e : Nat} (anchor : s.pru.anchor = some a)
    (start : s.pru.zones.startBlock s.pru.trackIndex = some e) :
    s.formEstimate = { s with pru := { s.pru with anchor := some { a with estimated := e } } } := by
  simp [State.formEstimate, anchor, start]

theorem State.formEstimate_lost {a : Anchor} (anchor : s.pru.anchor = some a)
    (start : s.pru.zones.startBlock s.pru.trackIndex = none) : s.formEstimate = s.dropAnchor := by
  simp [State.formEstimate, anchor, start]

theorem State.formEstimate_unanchored (unanchored : s.pru.anchor = none) : s.formEstimate = s := by
  simp [State.formEstimate, unanchored]

theorem State.dropAnchor_anchored (anchored : s.pru.anchor.isSome = true) :
    s.dropAnchor = { s with pru := { s.pru with anchor := none, run := 0 } } := by
  unfold State.dropAnchor
  split
  case h_1 unanchored => simp [unanchored] at anchored
  case h_2 => rfl

theorem State.dropAnchor_unanchored (unanchored : s.pru.anchor = none) : s.dropAnchor = s := by
  simp [State.dropAnchor, unanchored]

theorem State.replaceZones_unanchored {z : ZoneTable} (unanchored : s.pru.anchor = none) :
    s.replaceZones z = { s with pru := { s.pru with zones := z } } := by
  unfold State.replaceZones
  rw [unanchored]

theorem State.replaceZones_kept {z : ZoneTable} {a : Anchor} {e : Nat} (anchor : s.pru.anchor = some a)
    (holds : z.inRange a.block = true) (start : z.startBlock s.pru.trackIndex = some e) :
    s.replaceZones z = { s with pru := { s.pru with zones := z, anchor := some { a with estimated := e } } } := by
  unfold State.replaceZones
  split
  case h_1 unanchored => rw [unanchored] at anchor; cases anchor
  case h_2 b found =>
    obtain rfl : b = a := Option.some.inj (found.symm.trans anchor)
    rw [if_pos holds]
    exact State.formEstimate_found (s := { s with pru := { s.pru with zones := z } }) anchor start

theorem State.replaceZones_dropped {z : ZoneTable} {a : Anchor} (anchor : s.pru.anchor = some a)
    (lost : z.inRange a.block = false ∨ z.startBlock s.pru.trackIndex = none) :
    s.replaceZones z = { s with pru := { s.pru with zones := z, anchor := none, run := 0 } } := by
  have dropped : ({ s with pru := { s.pru with zones := z } } : State).dropAnchor =
      { s with pru := { s.pru with zones := z, anchor := none, run := 0 } } :=
    State.dropAnchor_anchored (by simp [anchor])
  unfold State.replaceZones
  split
  case h_1 unanchored => rw [unanchored] at anchor; cases anchor
  case h_2 b found =>
    obtain rfl : b = a := Option.some.inj (found.symm.trans anchor)
    split
    case isTrue holds =>
      have start := lost.resolve_left (by simp [holds])
      exact (State.formEstimate_lost (s := { s with pru := { s.pru with zones := z } }) anchor start).trans dropped
    case isFalse => exact dropped

theorem State.replaceZones_frame (s : State) (z : ZoneTable) :
    s.replaceZones z = { s with pru := (s.replaceZones z).pru } ∧ (s.replaceZones z).pru.zones = z ∧
      (s.replaceZones z).pru.trackIndex = s.pru.trackIndex := by
  cases anchor : s.pru.anchor with
  | none => rw [State.replaceZones_unanchored anchor]; exact ⟨rfl, rfl, rfl⟩
  | some a =>
    cases holds : z.inRange a.block with
    | false => rw [State.replaceZones_dropped anchor (.inl holds)]; exact ⟨rfl, rfl, rfl⟩
    | true =>
      cases start : z.startBlock s.pru.trackIndex with
      | none => rw [State.replaceZones_dropped anchor (.inr start)]; exact ⟨rfl, rfl, rfl⟩
      | some e => rw [State.replaceZones_kept anchor holds start]; exact ⟨rfl, rfl, rfl⟩

/-- Settles O58: the length by the count in the first word, the table by its seven points, the anchor by its three cases. -/
theorem zoneTableReplaced : Obligations.ZoneTableReplaced := by
  intro f w v rest s listens carries
  dsimp only
  rw [← ZoneTable.valid_iff ⟨zoneEntriesOf rest, (Word.lo w).toNat * 65536 + v.toNat⟩]
  have long := carries.whole
  have length : f.len.toNat = rest.length + 2 := carries.1
  have need : zoneSetLength (payloadOf f) = some (2 + 4 * (Word.hi w).toNat) := by rw [carries.payload]; rfl
  have owned : rest.length = 4 * (Word.hi w).toNat →
      exec (.zoneSet .portP f) s =
        .next ((ownZoneSet .portP (w :: v :: rest) s).1.respond .portP (ownZoneSet .portP (w :: v :: rest) s).2) :=
    fun agrees => congrArg Host.Outcome.next (State.takeRequest_carried listens carries rfl (by
      show some (2 + 4 * (Word.hi w).toNat) = some (rest.length + 2)
      rw [agrees, Nat.add_comm]))
  refine ⟨fun disagrees => ?_, fun agrees invalid => ?_, fun agrees valid => ?_⟩
  · refine congrArg Host.Outcome.next (State.takeRequest_length listens long.1 long.2 rfl ?_)
    rw [need, length]
    simp only [ne_eq, Option.some.injEq]
    omega
  · rw [owned agrees]
    unfold ownZoneSet
    rw [if_neg (show ¬(zoneTableOf (w :: v :: rest)).valid = true from invalid)]
    rfl
  · have answer : ownZoneSet .portP (w :: v :: rest) s =
        (s.replaceZones (zoneTableOf (w :: v :: rest)), { status := .ok, payload := [] }) := if_pos valid
    obtain ⟨frame, zones, index⟩ := s.replaceZones_frame (zoneTableOf (w :: v :: rest))
    refine ⟨s.replaceZones (zoneTableOf (w :: v :: rest)), by rw [owned agrees, answer], frame, zones, index,
      fun unanchored => ?_, fun a e anchor holds start => ?_, fun a anchor lost => ?_⟩
    · exact congrArg State.pru (State.replaceZones_unanchored unanchored)
    · exact congrArg State.pru (State.replaceZones_kept anchor holds start)
    · exact congrArg State.pru (State.replaceZones_dropped anchor lost)

end Sys2Proof.Machine
end

section
/-!
PROOFS. Reset and its release, the ticks without an expiry, and the timers that advance (chapters 4, 8 and 10).
-/

namespace Sys2Proof.Machine

variable {s : State}

/-! ### Reset -/

theorem PortPhase.inReset_eq (ph : PortPhase) :
    ph.inReset = if ph = .released then .released else .disregarded := by
  cases ph <;> rfl

/-- The after-reset values with the phases of the two ports written out (R193). -/
theorem State.afterReset_eq (s : State) (low : Bool) :
    s.afterReset low =
      { State.reset with
        rstnLow := low, lowvPin := s.lowvPin, homePin := s.homePin, pending := s.pending,
        pifP := { Pif.reset with phase := if s.pifP.phase = .released then .released else .disregarded },
        pifD := { Pif.reset with phase := if s.pifD.phase = .released then .released else .disregarded } } := by
  rw [State.afterReset, PortPhase.inReset_eq, PortPhase.inReset_eq]

theorem State.outOfReset_supplied (supplied : s.lowvPin = false) : s.outOfReset = s.afterReset false := by
  unfold State.outOfReset
  rw [supplied]
  rfl

/-- Settles O9: the reset values, and the pins that they leave inactive. -/
theorem resetGivesAfterResetValues : Obligations.ResetGivesAfterResetValues := by
  intro s
  refine ⟨⟨_, rfl, s.afterReset_eq true, rfl, rfl, rfl, rfl, fun p => ⟨rfl, rfl⟩⟩,
    fun low supplied => ⟨_, ?_, s.afterReset_eq false⟩, fun high supplied => ⟨_, ?_, s.afterReset_eq false⟩⟩
  · show execRstnReleased s = _
    unfold execRstnReleased
    rw [if_pos low, State.outOfReset_supplied supplied]
  · show execPowerOn s = _
    unfold execPowerOn
    rw [high, State.outOfReset_supplied supplied]
    rfl

/-- Settles O10: the assertion event on the after-reset values, with no move, no anchor and no mark to end. -/
theorem releaseUnderLowSupply : Obligations.ReleaseUnderLowSupply := by
  intro s low asserted
  refine ⟨(s.afterReset false).lowvEvent, ?_, ?_⟩
  · show execRstnReleased s = _
    unfold execRstnReleased State.outOfReset
    rw [if_pos low, if_pos asserted]
  · rw [State.afterReset_eq, asserted]
    exact ⟨rfl, rfl, rfl, BitVec.zero_or (x := Notice.driveState.flag), BitVec.zero_or (x := Notice.driveState.flag)⟩

/-! ### Release of the supply -/

theorem State.grantPermit_eq (s : State) :
    s.grantPermit =
      { s with spc := { s.spc with permit := if s.dsv.clamp = .clamped ∧ s.dsv.lowv = false then true else s.spc.permit } } := by
  unfold State.grantPermit
  by_cases fit : s.dsv.clamp = .clamped ∧ s.dsv.lowv = false
  · rw [if_pos fit, if_pos (by simp [fit])]
  · rw [if_neg fit, if_neg (by simpa using fit)]

theorem Dsv.afterRelease_eq (d : Dsv) :
    d.afterRelease = if d.record ≠ none then .faulted else if d.clamp = .clamped then .idle else .noDisc := by
  simp only [Dsv.afterRelease, Option.isSome_iff_ne_none]

theorem Dsv.afterRelease_free (d : Dsv) : d.afterRelease ≠ .powerHold := by
  unfold Dsv.afterRelease
  split
  case isTrue => decide
  case isFalse => split <;> decide

/-- Settles O36: the permit, the drive state by the record and the clamp, and no grant. -/
theorem lowSupplyReleased : Obligations.LowSupplyReleased := by
  intro s high asserted nothing held unanchored unmarked
  show execLowvRelease s = _
  unfold execLowvRelease State.releaseEvent
  dsimp only
  rw [if_pos (by simp [high, asserted]), State.grantPermit_eq, State.setDrive_plain ?_ ?_ ?_ ?_,
    State.NothingWaits.arbitrate ?_, Dsv.afterRelease_eq]
  · simp only [and_true]
  · simpa [State.NothingWaits] using nothing
  · show s.dsv.afterRelease ≠ s.dsv.drive
    rw [held]
    exact s.dsv.afterRelease_free
  · exact unanchored
  · exact unmarked
  · show s.dsv.drive ≠ .holding
    rw [held]
    decide

/-! ### Ticks -/

theorem State.when_due {due : Bool} (high : s.rstnLow = false) (holds : due = true) (effect : State → State) :
    s.when due effect = effect s := by
  simp [State.when, high, holds]

theorem State.when_not_due {due : Bool} (fails : due = false) (effect : State → State) : s.when due effect = s := by
  simp [State.when, fails]

theorem Timer.dueAt_iff (t : Timer) (limit : Nat) :
    t.dueAt limit = true ↔ t.running = true ∧ limit ≤ t.count + 1 := by
  simp [Timer.dueAt]

theorem Timer.dueAt_false (t : Timer) (limit : Nat) :
    t.dueAt limit = false ↔ t.running = false ∨ t.count + 1 < limit := by
  simp [Timer.dueAt, ← Bool.not_eq_true, imp_iff_not_or]

/-- Settles O32: each row where its condition holds, and where it does not. -/
theorem countdownsAndNudge : Obligations.CountdownsAndNudge := by
  intro s high
  refine ⟨fun window left => ?_, fun closed => ?_, fun active => ?_, fun free => ?_, fun running due => ?_, fun early => ?_⟩
  · exact congrArg Host.Outcome.next (State.when_due high (by simp [window, left]) _)
  · refine congrArg Host.Outcome.next (State.when_not_due ?_ _)
    obtain closed | spent := closed
    · rw [closed]; rfl
    · rw [spent]; simp
  · exact congrArg Host.Outcome.next (State.when_due high active _)
  · exact congrArg Host.Outcome.next (State.when_not_due (by rw [free]; rfl) _)
  · exact congrArg Host.Outcome.next (State.when_due high ((Timer.dueAt_iff _ _).mpr ⟨running, due⟩) _)
  · exact congrArg Host.Outcome.next (State.when_not_due ((Timer.dueAt_false _ _).mpr early) _)

theorem Timer.tick_eq (t : Timer) (limit : Nat) :
    t.tick limit = if t.running = true ∧ t.count + 1 < limit then { t with count := t.count + 1 } else t := by
  simp only [Timer.tick, Bool.and_eq_true, decide_eq_true_eq]
  rfl

theorem TrackLoop.tick_closeTimer (t : TrackLoop) (closeTo : Nat) :
    (t.tick closeTo).closeTimer =
      if t.state = .closing ∧ t.closeTimer + 1 < closeTo then t.closeTimer + 1 else t.closeTimer := by
  simp only [TrackLoop.tick, Bool.and_eq_true, decide_eq_true_eq]

theorem Spc.tick_spinTimer (c : Spc) (spinTo : Nat) :
    (c.tick spinTo).spinTimer =
      if c.state = .accel ∨ c.state = .locking then c.spinTimer.tick spinTo else c.spinTimer := by
  unfold Spc.tick
  cases c.state <;> rfl

/-- A disc that runs out leaves the tick at which it stops to the row of its own (R74). -/
theorem Spc.tick_silence_out {c : Spc} (spinTo : Nat) (out : c.state.runsOut = true) (short : c.silence < 200) :
    (c.tick spinTo).silence = min (c.silence + 1) 199 := by
  show (if (c.state.runsOut && decide (200 ≤ c.silence + 1)) = true then c.silence else min (c.silence + 1) 200) = _
  rw [out, Bool.true_and]
  by_cases last : 200 ≤ c.silence + 1
  · rw [if_pos (decide_eq_true last)]
    omega
  · rw [if_neg (by simpa using last)]
    omega

theorem Spc.tick_silence_in {c : Spc} (spinTo : Nat) (turning : c.state.runsOut = false) :
    (c.tick spinTo).silence = min (c.silence + 1) 200 := by
  unfold Spc.tick
  rw [turning]
  rfl

/-- Settles O33: the tick of each timer by its block. -/
theorem millisecondTickAdvancesTimers : Obligations.MillisecondTickAdvancesTimers := by
  intro s high
  refine ⟨s.tickTimers, congrArg Host.Outcome.next (State.when_due high rfl _), rfl, s.track.tick_closeTimer _,
    fun out short => s.spc.tick_silence_out _ ?_ short, fun turning => s.spc.tick_silence_in _ ?_, ?_,
    Timer.tick_eq _ _, Timer.tick_eq _ _, Timer.tick_eq _ _, Timer.tick_eq _ _, Timer.tick_eq _ _, Timer.tick_eq _ _,
    Timer.tick_eq _ _⟩
  · rcases out with state | state | state <;> rw [state] <;> rfl
  · rcases turning with state | state | state | state <;> rw [state] <;> rfl
  · dsimp only
    rw [← Timer.tick_eq]
    exact s.spc.tick_spinTimer _

end Sys2Proof.Machine
end

section
/-!
PROOFS. The LPR stage of one loop: the CLOSED sample, the close test, the search (chapter 2).
-/

namespace Sys2Proof.Machine

variable {s : State}

/-! ### The CLOSED sample -/

theorem closedSample_law (e acc : Int) (kp ki kd : Nat) (ks integ ePrev : Int) :
    ClosedSampleLaw e acc kp ki kd ks integ ePrev (closedSample e acc kp ki kd ks integ ePrev).1
      (closedSample e acc kp ki kd ks integ ePrev).2 := by
  have range := fun inside => (closedSample_range e acc kp ki kd ks integ ePrev inside).2
  have limits : clampI Config.minIntegrator Config.maxIntegrator (integ + e * ki) =
      max (-8388608) (min (integ + e * ki) 8388607) := clampI_eq_max_min (by decide) _
  revert range
  unfold closedSample ClosedSampleLaw
  dsimp only
  rw [limits, clampI_eq_max_min (by decide)]
  exact fun range => ⟨rfl, fun keeps => if_pos keeps, fun takes => if_neg takes, range⟩

theorem State.focusStage_closed (closed : s.focus.state = .closed) :
    s.focusStage = { s with focus := s.focus.compute s.prm s.dfe.fe s.dfe.az } := by
  unfold State.focusStage
  rw [closed]

theorem State.focusStage_resting (resting : s.focus.state = .opened ∨ s.focus.state = .held) : s.focusStage = s := by
  unfold State.focusStage
  obtain state | state := resting <;> rw [state]

theorem State.trackStage_closed (found : FocusState) (closed : s.track.state = .closed) :
    s.trackStage found = { s with track := s.track.compute s.prm s.dfe.te s.dfe.ax } := by
  unfold State.trackStage
  rw [closed]

theorem State.trackStage_resting (found : FocusState) (resting : s.track.state = .opened ∨ s.track.state = .held) :
    s.trackStage found = s := by
  unfold State.trackStage
  obtain state | state := resting <;> rw [state]

/-! ### The close test -/

theorem State.setTrack_change {r : TrackLoop} (change : r.state ≠ s.track.state) :
    s.setTrack r = { s with track := r, dfe := { s.dfe with armed := .none } } := by
  unfold State.setTrack
  rw [if_neg change]

theorem State.trackStage_closing (found : FocusState) (closing : s.track.state = .closing) :
    s.trackStage found =
      if found = .closed ∧ (s.dfe.te.natAbs : Int) ≤ s.prm.closeLevel then s.setTrack (s.track.closedOn s.dfe.te) else s := by
  unfold State.trackStage
  rw [closing]

theorem State.lprReport_settled (settled : s.focus.state ≠ .search) :
    s.lprReport =
      if s.track.state = .closing ∧ s.focus.state = .closed ∧ (s.dfe.te.natAbs : Int) ≤ s.prm.closeLevel then
        .trackingClosed
      else .none := by
  unfold State.lprReport
  rw [if_neg settled]

/-- Settles O13: the CLOSED sample of either loop by its gains, and the close test. -/
theorem closedLoopsCompute : Obligations.ClosedLoopsCompute := by
  intro s
  refine ⟨fun closed => ?_,
    fun found closing => ⟨fun closes => ⟨?_, fun focus => ?_⟩, fun stays => ⟨?_, fun focus => ?_⟩⟩,
    fun found closed => ?_⟩
  · rw [State.focusStage_closed closed]
    refine ⟨rfl, ?_⟩
    dsimp only [FocusLoop.compute]
    cases s.focus.gains <;> exact closedSample_law _ _ _ _ _ _ _ _
  · rw [State.trackStage_closing found closing, if_pos closes, State.setTrack_change (by rw [closing]; exact fun h => nomatch h)]
    rfl
  · rw [State.lprReport_settled (by rw [focus, closes.1]; decide), if_pos ⟨closing, focus.trans closes.1, closes.2⟩]
  · rw [State.trackStage_closing found closing, if_neg stays]
  · subst focus
    by_cases searching : s.focus.state = .search
    · unfold State.lprReport
      rw [if_pos searching]
      split
      case isTrue => decide
      case isFalse => split <;> decide
    · rw [State.lprReport_settled searching, if_neg (by tauto)]
      decide
  · rw [State.trackStage_closed found closed]
    refine ⟨rfl, ?_⟩
    dsimp only [TrackLoop.compute]
    cases s.track.gains <;> exact closedSample_law _ _ _ _ _ _ _ _

/-! ### The search -/

theorem FocusLoop.pullsIn_iff (f : FocusLoop) (m : Params) (sum : Nat) (fe : Int) :
    f.pullsIn m sum fe = true ↔ m.sumPullin ≤ sum ∧ ∃ p, f.prevFe = some p ∧ fe * p ≤ 0 := by
  unfold FocusLoop.pullsIn
  cases f.prevFe <;> simp

/-- R33's step: the ramp value, and the direction before the sweep's end is judged. -/
theorem rampStep_eq (r : Ramp) (drive step span : Int) :
    rampStep r drive step span =
      let d := if r = .rising then min (drive + step) span else max (drive - step) (-span)
      (d, if r = .rising ∧ d ≠ span then .rising else .falling) := by
  cases r with
  | rising =>
    simp only [rampStep, if_true, true_and, ite_not, ne_eq]
  | falling => rfl

theorem FocusLoop.searchFails_iff (f : FocusLoop) (m : Params) :
    f.searchFails m = true ↔
      (rampStep f.ramp f.drive m.searchStep m.searchSpan).1 = -(m.searchSpan : Int) ∧ m.focusTries ≤ f.sweeps + 1 := by
  simp [FocusLoop.searchFails]

section
variable (searching : s.focus.state = .search)
include searching

theorem State.search_pullsIn (pulls : s.focus.pullsIn s.prm s.dfe.sum s.dfe.fe = true) :
    s.lprReport = .pulledIn ∧ s.focusStage = { s with focus := s.focus.pulledIn s.dfe.fe } := by
  unfold State.lprReport State.focusStage
  rw [searching, if_pos rfl, if_pos pulls]
  exact ⟨rfl, if_pos pulls⟩

theorem State.search_steps (dull : ¬s.focus.pullsIn s.prm s.dfe.sum s.dfe.fe = true)
    (goesOn : ¬s.focus.searchFails s.prm = true) :
    s.lprReport = .none ∧ s.focusStage = { s with focus := s.focus.searchStep s.prm s.dfe.fe } := by
  unfold State.lprReport State.focusStage
  rw [searching, if_pos rfl, if_neg dull, if_neg goesOn]
  exact ⟨rfl, (if_neg dull).trans (if_neg goesOn)⟩

theorem State.search_fails (dull : ¬s.focus.pullsIn s.prm s.dfe.sum s.dfe.fe = true)
    (fails : s.focus.searchFails s.prm = true) :
    s.lprReport = .searchFailed ∧
      s.focusStage = ({ s with focus := s.focus.searchStep s.prm s.dfe.fe } : State).focusOpen := by
  unfold State.lprReport State.focusStage
  rw [searching, if_pos rfl, if_neg dull, if_pos fails]
  exact ⟨rfl, (if_neg dull).trans (if_pos fails)⟩

end

/-- Settles O14: the pull-in test before the step, and the failed search of the last sweep. -/
theorem searchSampleStepsOrPullsIn : Obligations.SearchSampleStepsOrPullsIn := by
  intro s searching
  dsimp only
  rw [← FocusLoop.pullsIn_iff]
  have step := rampStep_eq s.focus.ramp s.focus.drive s.prm.searchStep s.prm.searchSpan
  dsimp only at step
  have failing := s.focus.searchFails_iff s.prm
  rw [step] at failing
  rw [← failing]
  refine ⟨State.search_pullsIn searching, fun dull goesOn => ?_, fun dull fails => ?_⟩
  · obtain ⟨report, stage⟩ := State.search_steps searching dull goesOn
    refine ⟨report, stage.trans ?_⟩
    unfold FocusLoop.searchStep
    rw [step]
  · obtain ⟨report, stage⟩ := State.search_fails searching dull fails
    refine ⟨report, ?_⟩
    rw [stage]
    refine ⟨rfl, rfl, rfl, rfl, rfl, ?_⟩
    exact if_pos (by rw [step]; exact (failing.mp fails).1)

end Sys2Proof.Machine
end

section
/-!
PROOFS. Hall edges: the judgement of an edge, the count of the revolution and its event, and the orders that a coasting
spindle takes (chapter 4), with the orders in normal form that they and later proofs use.
-/

namespace Sys2Proof.Machine

variable {s : State}

/-! ### Where no grant follows -/

/-- Two states that a choice does not tell apart: the pickup's work, the drive state, the Arbiter but for the mark, and each
store's mode and records (R141 to R144). -/
structure State.SameChoice (s t : State) : Prop where
  active : t.mve.active = s.mve.active
  holdJump : t.mve.holdJump = s.mve.holdJump
  activity : t.mve.activity = s.mve.activity
  drive : t.dsv.drive = s.dsv.drive
  arb : t.arb = { s.arb with mark := t.arb.mark }
  storeP : t.pifP.mode = s.pifP.mode ∧ t.pifP.older = s.pifP.older ∧ t.pifP.newer = s.pifP.newer
  storeD : t.pifD.mode = s.pifD.mode ∧ t.pifD.older = s.pifD.older ∧ t.pifD.newer = s.pifD.newer

theorem State.Still.idle {t : State} (still : s.Still) (same : s.SameChoice t) : t.arbitrate = t :=
  still.arbitrate same.active same.holdJump same.activity same.drive same.arb same.storeP same.storeD

/-! ### Orders in normal form -/

theorem State.pickupFree_active {m : ActiveMove} (active : s.mve.active = some m) : s.pickupFree = false := by
  simp [State.pickupFree, active]

theorem State.setIndex_change {n : Int} (change : n ≠ s.pru.trackIndex) :
    s.setIndex n =
      ({ s with
          pru := { s.pru with trackIndex := n }
          spc := { s.spc with target := targetPeriod n s.prm.sf s.prm.kclv } } : State).formEstimate := by
  unfold State.setIndex
  rw [if_neg change]
  rfl

theorem State.moveIndex_inside {d : Int} (low : -2048 ≤ s.pru.trackIndex + d) (high : s.pru.trackIndex + d ≤ 21999) :
    s.moveIndex d = s.setIndex (s.pru.trackIndex + d) := by
  have inside : clampI Config.minTrack Config.maxTrack (s.pru.trackIndex + d) = s.pru.trackIndex + d := by
    rw [clampI_eq_max_min (by decide), Config.minTrack, Config.maxTrack]
    omega
  unfold State.moveIndex
  rw [inside]

/-- A step of an anchored record forms the estimated block from the track that it reaches (R83, R84). -/
theorem State.moveIndex_anchored {d : Int} {a : Anchor} {e : Nat} (anchor : s.pru.anchor = some a) (moves : d ≠ 0)
    (low : -2048 ≤ s.pru.trackIndex + d) (high : s.pru.trackIndex + d ≤ 21999)
    (start : s.pru.zones.startBlock (s.pru.trackIndex + d) = some e) :
    s.moveIndex d =
      { s with
        pru := { s.pru with trackIndex := s.pru.trackIndex + d, anchor := some { a with estimated := e } }
        spc := { s.spc with target := targetPeriod (s.pru.trackIndex + d) s.prm.sf s.prm.kclv } } := by
  rw [State.moveIndex_inside low high, State.setIndex_change (by omega), State.formEstimate_found (a := a) (e := e) ?_ ?_]
  · exact anchor
  · exact start

/-- The tracking loop after a close command that is taken (R23, R35). -/
def TrackLoop.closing (r : TrackLoop) : TrackLoop :=
  { r with
    state := .closing, drive := 0, integ := 0, ePrev := 0, resume := false, kick := .none, closeTimer := 0 }

theorem State.closeCommand_taken (lens : s.lensTaken = true) : s.closeCommand = s.setTrack s.track.closing := by
  unfold State.closeCommand
  rw [if_pos lens]
  rfl

theorem State.startClosePhase_taken (lens : s.lensTaken = true) (change : s.track.state ≠ .closing) :
    s.startClosePhase =
      { s with
        track := s.track.closing, dfe := { s.dfe with armed := .none }
        mve := { s.mve with phase := .close, closeTries := 1, settling := false } } := by
  unfold State.startClosePhase
  rw [if_pos lens, State.closeCommand_taken ?_, State.setTrack_change change.symm]
  · exact lens

/-! ### An edge and its judgement -/

/-- The spindle with an edge latched and the target period of its track and parameters (R61, R63). -/
def Spc.latched (c : Spc) (us period : Nat) : Spc :=
  { c with tm := min (c.edgeTimer + us) 65535, edgeTimer := 0, silence := 0, target := period }

theorem State.judgeEdge_eq (s : State) (us : Nat) :
    s.judgeEdge us =
      ({ s with
          spc := (s.spc.latched us (targetPeriod s.pru.trackIndex s.prm.sf s.prm.kclv)).judge s.prm } : State).reportEdge
        s.spc.state := rfl

theorem Spc.integrate_eq (c : Spc) (ksi : Nat) :
    c.integrate ksi =
      let da := (max 0 (min (c.da + roundAway (((c.tm : Int) - c.target) * ksi) 64) 65535)).toNat
      { c with da := da, duty := da / 256, dir := .fwd } := by
  unfold Spc.integrate Spc.error
  rw [clampI_eq_max_min (by decide)]
  rfl

theorem Spc.judgeLocked_inside {c : Spc} {w : Nat} (inside : ((c.tm : Int) - c.target).natAbs ≤ c.target * w / 128) :
    c.judgeLocked w = { c with outRun := 0 } := if_neg (Nat.not_lt.mpr inside)

theorem Spc.judgeLocked_outside {c : Spc} {w : Nat} (outside : c.target * w / 128 < ((c.tm : Int) - c.target).natAbs) :
    c.judgeLocked w =
      if 6 ≤ c.outRun + 1 then { c with state := .locking, inRun := 0, outRun := 0, spinTimer := .started }
      else { c with outRun := c.outRun + 1 } := if_pos outside

theorem Spc.judgeLocking_twelfth {c : Spc} {w : Nat} (inside : ((c.tm : Int) - c.target).natAbs ≤ c.target * w / 256)
    (eleven : c.inRun = 11) :
    c.judgeLocking w = { c with state := .locked, inRun := 0, outRun := 0, spinTimer := c.spinTimer.stop } := by
  unfold Spc.judgeLocking
  rw [if_pos (show c.error.natAbs ≤ c.lockWindow w from inside), if_pos (by rw [eleven]; decide)]

theorem State.reportEdge_quiet {before : SpindleState} (same : s.spc.state = before) : s.reportEdge before = s := by
  unfold State.reportEdge
  rw [same]
  cases before <;> rfl

theorem State.reportEdge_lost (now : s.spc.state = .locking) :
    s.reportEdge .locked = (s.bump .spinUnlock).raiseBoth .spin := by
  unfold State.reportEdge
  rw [now]

theorem State.reportEdge_locked (now : s.spc.state = .locked) : s.reportEdge .locking = s.onSpindleLocked := by
  unfold State.reportEdge
  rw [now]

theorem State.countEdge_plain (few : s.spc.edges + 1 < 6) :
    s.countEdge = { s with spc := { s.spc with edges := s.spc.edges + 1 } } := if_neg (Nat.not_le.mpr few)

theorem State.countEdge_sixth (five : s.spc.edges = 5) :
    s.countEdge = ({ s with spc := { s.spc with edges := 0 } } : State).revolution :=
  if_pos (by rw [five]; decide)

/-! ### An edge of a LOCKED spindle -/

theorem execHallEdge_high (high : s.rstnLow = false) (us : Nat) :
    execHallEdge us s = .next ((s.judgeEdge us).countEdge.arbitrate) := by
  unfold execHallEdge
  rw [high]
  rfl

/-- The duty's update of an edge in LOCKING or LOCKED, before the edge is judged by its windows (R61, R63, R67). -/
def Spc.updated (c : Spc) (us period ksi : Nat) : Spc :=
  let tm := min (c.edgeTimer + us) 65535
  let da := (max 0 (min (c.da + roundAway (((tm : Int) - period) * ksi) 64) 65535)).toNat
  { c with
    tm := tm, edgeTimer := 0, silence := 0, target := period, da := da, duty := da / 256, dir := .fwd }

theorem Spc.judge_locked {c : Spc} (locked : c.state = .locked) (us period : Nat) (m : Params) :
    (c.latched us period).judge m = (c.updated us period m.ksi).judgeLocked m.lockWin := by
  have state : (c.latched us period).state = .locked := locked
  unfold Spc.judge
  rw [state]
  dsimp only
  rw [Spc.integrate_eq]
  rfl

theorem Spc.judge_locking {c : Spc} (locking : c.state = .locking) (us period : Nat) (m : Params) :
    (c.latched us period).judge m = (c.updated us period m.ksi).judgeLocking m.lockWin := by
  have state : (c.latched us period).state = .locking := locking
  unfold Spc.judge
  rw [state]
  dsimp only
  rw [Spc.integrate_eq]
  rfl

/-- An edge within the wide window keeps the lock (R69). -/
theorem State.judgeEdge_kept {us : Nat} (locked : s.spc.state = .locked)
    (inside : (((min (s.spc.edgeTimer + us) 65535 : Nat) : Int) -
        targetPeriod s.pru.trackIndex s.prm.sf s.prm.kclv).natAbs ≤
      targetPeriod s.pru.trackIndex s.prm.sf s.prm.kclv * s.prm.lockWin / 128) :
    s.judgeEdge us =
      { s with
        spc :=
          { s.spc.updated us (targetPeriod s.pru.trackIndex s.prm.sf s.prm.kclv) s.prm.ksi with outRun := 0 } } := by
  rw [State.judgeEdge_eq, Spc.judge_locked locked, Spc.judgeLocked_inside ?_, State.reportEdge_quiet ?_]
  · rfl
  · exact inside

/-- Settles O21: the edge within the wide window, outside it, and outside it for the sixth time. -/
theorem hallEdgeInLocked : Obligations.HallEdgeInLocked := by
  intro us s high still locked few
  dsimp only
  have run := execHallEdge_high high us
  generalize period : targetPeriod s.pru.trackIndex s.prm.sf s.prm.kclv = T
  refine ⟨fun inside => ?_, fun outside below => ?_, fun outside sixth => ?_⟩
  · rw [← period] at inside ⊢
    refine run.trans (congrArg Host.Outcome.next ?_)
    rw [State.judgeEdge_kept locked inside, State.countEdge_plain ?_,
      still.idle ?_]
    · rfl
    · exact ⟨rfl, rfl, rfl, rfl, rfl, ⟨rfl, rfl, rfl⟩, ⟨rfl, rfl, rfl⟩⟩
    · exact few
  · refine run.trans (congrArg Host.Outcome.next ?_)
    rw [State.judgeEdge_eq, Spc.judge_locked locked, period, Spc.judgeLocked_outside ?_, if_neg ?_,
      State.reportEdge_quiet ?_, State.countEdge_plain ?_,
      still.idle ?_]
    · rfl
    · exact ⟨rfl, rfl, rfl, rfl, rfl, ⟨rfl, rfl, rfl⟩, ⟨rfl, rfl, rfl⟩⟩
    · exact few
    · rfl
    · exact Nat.not_le.mpr below
    · exact outside
  · refine run.trans (congrArg Host.Outcome.next ?_)
    rw [State.judgeEdge_eq, Spc.judge_locked locked, period, Spc.judgeLocked_outside ?_, if_pos ?_, locked,
      State.reportEdge_lost ?_, State.bump_eq, State.bump_eq, State.countEdge_plain ?_,
      still.idle ?_]
    · rfl
    · exact ⟨rfl, rfl, rfl, rfl, rfl, ⟨rfl, rfl, rfl⟩, ⟨rfl, rfl, rfl⟩⟩
    · exact few
    · rfl
    · exact sixth
    · exact outside

/-- Settles O22: the lock, its report, and the close phase that it starts. -/
theorem twelfthEdgeLocksAndCloses : Obligations.TwelfthEdgeLocksAndCloses := by
  intro us s m high active phase lens opened locking few eleven
  dsimp only
  generalize period : targetPeriod s.pru.trackIndex s.prm.sf s.prm.kclv = T
  intro inside
  refine (execHallEdge_high high us).trans (congrArg Host.Outcome.next ?_)
  have goesOn : ∀ c : Spc, ({ s with spc := c } : State).onSpindleLocked = ({ s with spc := c } : State).startClosePhase := by
    intro c
    unfold State.onSpindleLocked
    simp only [active, phase]
  rw [State.judgeEdge_eq, Spc.judge_locking locking, period, Spc.judgeLocking_twelfth ?_ ?_, locking,
    State.reportEdge_locked ?_, goesOn, State.startClosePhase_taken ?_ ?_, State.countEdge_plain ?_,
    State.arbitrate_busy (State.pickupFree_active (m := m) ?_)]
  · rfl
  · exact active
  · exact few
  · exact lens
  · rw [opened]; decide
  · rfl
  · exact inside
  · exact eleven

/-! ### Revolutions -/

theorem State.pruRevolution_advances {a : Anchor} {e : Nat} (spirals : s.spirals = true) (anchor : s.pru.anchor = some a)
    (low : -2048 ≤ s.pru.trackIndex) (high : s.pru.trackIndex < 21999)
    (start : s.pru.zones.startBlock (s.pru.trackIndex + 1) = some e) :
    s.pruRevolution =
      { s with
        pru :=
          { s.pru with
            trackIndex := s.pru.trackIndex + 1, anchor := some { a with estimated := e }
            revs := min (s.pru.revs + 1) 65535 }
        spc := { s.spc with target := targetPeriod (s.pru.trackIndex + 1) s.prm.sf s.prm.kclv } } := by
  unfold State.pruRevolution
  dsimp only
  rw [if_pos spirals, State.moveIndex_anchored anchor (by decide) (by omega) (by omega) start]
  rfl

theorem State.slcRevolution_follows (follows : s.slc.state = .trackingFollow) (summed : 0 < s.slc.followCount)
    (away : s.homePin = false) :
    s.slcRevolution =
      { s with
        slc :=
          let mean := roundAway s.slc.followSum s.slc.followCount
          let c := { s.slc with followSum := 0, followCount := 0 }
          if s.prm.followLevel ≤ mean.natAbs then
            { c with
              duty := mean.sign * s.prm.followDuty, nudgeTimer := { count := 0, running := true }
              nudgeLength := s.prm.followMs }
          else c } := by
  have free : ∀ d, s.limitedDuty d = d := fun d => by simp [State.limitedDuty, away]
  unfold State.slcRevolution
  rw [if_pos follows]
  dsimp only
  by_cases level : s.prm.followLevel ≤ s.slc.mean.natAbs
  · rw [if_pos ⟨summed, level⟩, free, if_pos (show s.prm.followLevel ≤ (roundAway _ _).natAbs from level)]
    rfl
  · rw [if_neg fun reached => level reached.2, if_neg (show ¬s.prm.followLevel ≤ (roundAway _ _).natAbs from level)]

/-- Settles O23: the edge before the advance, and the event at its users. -/
theorem sixthEdgeIsRevolution : Obligations.SixthEdgeIsRevolution := by
  intro us s a b high still locked five tracking closed free none follows summed away anchor low below start
  dsimp only
  intro inside
  refine (execHallEdge_high high us).trans (congrArg Host.Outcome.next ?_)
  have quiet : ∀ u : State, u.mve = s.mve → u.dsv = s.dsv → u.mveRevolution = u := by
    intro u mve dsv
    unfold State.mveRevolution
    rw [mve, free, none, dsv, tracking]
    rfl
  rw [State.judgeEdge_kept locked inside, State.countEdge_sixth ?_, State.revolution,
    State.pruRevolution_advances (a := a) (e := b) ?_ ?_ ?_ ?_ ?_, State.slcRevolution_follows ?_ ?_ ?_, quiet _ ?_ ?_,
    still.idle ?_]
  · rfl
  · exact ⟨rfl, rfl, rfl, rfl, rfl, ⟨rfl, rfl, rfl⟩, ⟨rfl, rfl, rfl⟩⟩
  · rfl
  · rfl
  · exact follows
  · exact summed
  · exact away
  · show (s.track.state.follows && s.dsv.drive.settled) = true
    rw [closed, tracking]
    rfl
  · exact anchor
  · exact low
  · exact below
  · exact start
  · exact five

/-! ### Coasting -/

/-- Settles O24: the two orders in each spindle state, and an edge in COAST. -/
theorem coastOrderTaken : Obligations.CoastOrderTaken := by
  intro s
  refine ⟨fun turning => ?_, fun resting => ?_, fun permit coasting => ?_, fun permit running => ?_, fun coasting us => ?_⟩
  · unfold State.coastOrder
    rcases turning with state | state | state | state | state <;> rw [state] <;> rfl
  · unfold State.coastOrder
    obtain state | state := resting <;> rw [state]
  · unfold State.brakeOrder
    rw [permit, coasting]
    rfl
  · unfold State.brakeOrder
    rw [permit, running]
    rfl
  · have judged : ∀ c : Spc, c.state = .coast → c.judge s.prm = c := fun c state => by
      unfold Spc.judge
      rw [state]
    rw [State.judgeEdge_eq, judged (s.spc.latched us _) coasting, State.reportEdge_quiet ?_]
    · rfl
    · rfl

end Sys2Proof.Machine
end

section
/-!
PROOFS. The orders of the blocks in normal form: each as the record that it leaves behind, for the runs of chapters 6 to 8.
-/

namespace Sys2Proof.Machine

variable {s : State}

/-! ### Notices, the anchor and the mark -/

/-- A port's interface with one notice told (R177). -/
def Pif.told (v : Pif) (n : Notice) : Pif := { v with flags := v.flags ||| n.flag }

theorem State.raiseBoth_eq (s : State) (n : Notice) :
    s.raiseBoth n = { s with pifP := s.pifP.told n, pifD := s.pifD.told n } := rfl

/-- The position record after a drop of its anchor (R100). -/
def Pru.dropped (v : Pru) : Pru :=
  match v.anchor with
  | none => v
  | some _ => { v with anchor := none, run := 0 }

theorem State.dropAnchor_eq (s : State) : s.dropAnchor = { s with pru := s.pru.dropped } := by
  unfold State.dropAnchor Pru.dropped
  cases s.pru.anchor <;> rfl

@[simp] theorem Pru.dropped_anchor (v : Pru) : v.dropped.anchor = none := by
  unfold Pru.dropped
  split
  case h_1 unanchored => exact unanchored
  case h_2 => rfl

@[simp] theorem Pru.dropped_trackIndex (v : Pru) : v.dropped.trackIndex = v.trackIndex := by
  unfold Pru.dropped
  split <;> rfl

theorem Pru.dropped_unanchored {v : Pru} (unanchored : v.anchor = none) : v.dropped = v := by
  unfold Pru.dropped
  rw [unanchored]

/-- Port P after a clearing of the mark that is told where the mark was valid (R154). -/
def Pif.unmarked (v : Pif) (mark : Option Mark) : Pif := if mark.isSome then v.told .markLost else v

theorem State.clearMark_told (s : State) :
    s.clearMark true = { s with arb := { s.arb with mark := none }, pifP := s.pifP.unmarked s.arb.mark } := by
  unfold State.clearMark Pif.unmarked
  split
  case h_1 unmarked => rw [unmarked, Option.isSome_none, if_neg Bool.false_ne_true, ← unmarked]
  case h_2 mark => rw [mark]; rfl

/-! ### The drive state -/

/-- Entry to a settled drive state from one that is not HOLDING: the record and the mark stay (R157). -/
theorem State.setDrive_settled {d : DriveState} (change : d ≠ s.dsv.drive) (settled : d.settled = true)
    (standing : s.dsv.drive ≠ .holding) :
    s.setDrive d = ({ s with dsv := { s.dsv with drive := d } } : State).raiseBoth .driveState := by
  unfold State.setDrive State.settle State.leaveDrive
  rw [if_neg change, if_pos settled, if_neg standing]

/-- The Move Engine at the departure from a drive state (R118, R157). -/
def Mve.left (v : Mve) (d : DriveState) : Mve :=
  if d = .holding then { v with holdJump := .none, holdTimer := v.holdTimer.stop } else v

theorem State.leaveDrive_eq (s : State) (d : DriveState) : s.leaveDrive d = { s with mve := s.mve.left d } := by
  unfold State.leaveDrive Mve.left
  split <;> rfl

/-- Entry to a drive state that is not a settled one: the anchor and the mark go (R157). -/
theorem State.setDrive_unsettled {d : DriveState} (change : d ≠ s.dsv.drive) (unsettled : d.settled = false) :
    s.setDrive d =
      { s with
        dsv := { s.dsv with drive := d }, pru := s.pru.dropped, arb := { s.arb with mark := none }
        mve := s.mve.left s.dsv.drive, pifP := (s.pifP.told .driveState).unmarked s.arb.mark
        pifD := s.pifD.told .driveState } := by
  unfold State.setDrive State.settle
  rw [if_neg change, if_neg (by rw [unsettled]; exact Bool.false_ne_true), State.dropAnchor_eq, State.clearMark_told,
    State.leaveDrive_eq]
  rfl

/-! ### Loops -/

/-- The Detector Front End after the tracking loop has been ordered to a state (R15). -/
def Dfe.ordered (v : Dfe) (before after : TrackState) : Dfe :=
  if after = before then v else { v with armed := .none }

theorem State.focusOpen_eq (s : State) :
    s.focusOpen =
      { s with
        track := s.track.emptied .opened, focus := s.focus.emptied
        dfe := s.dfe.ordered s.track.state .opened } := rfl

/-- The focus loop after a search command that is taken (R23, R32). -/
def FocusLoop.searching (f : FocusLoop) (span : Nat) : FocusLoop :=
  { f with
    state := .search, drive := -(span : Int), integ := 0, ePrev := 0, resume := false, ramp := .rising, sweeps := 0
    prevFe := none }

theorem State.searchCommand_taken (laser : s.dsv.laser = true) :
    s.searchCommand =
      { s with
        track := s.track.emptied .opened, focus := s.focus.searching s.prm.searchSpan
        dfe := s.dfe.ordered s.track.state .opened } := if_pos laser

/-- The tracking loop after a jump command that is taken (R23, R37). -/
def TrackLoop.kicked (r : TrackLoop) (kick : Nat) (d : Dir) : TrackLoop :=
  { r with
    state := .jumping, drive := d.step * kick, integ := 0, ePrev := 0, resume := false, kick := .kick, jumpDir := d }

theorem State.jumpCommand_taken (lens : s.lensTaken = true) (d : Dir) :
    s.jumpCommand d =
      { s with track := s.track.kicked s.prm.kick d, dfe := s.dfe.ordered s.track.state .jumping } := if_pos lens

theorem State.closeCommand_eq (lens : s.lensTaken = true) :
    s.closeCommand = { s with track := s.track.closing, dfe := s.dfe.ordered s.track.state .closing } := if_pos lens

/-! ### Spindle and sled -/

/-- The spindle after a coast order (R73). -/
def Spc.coasted (c : Spc) : Spc :=
  match c.state with
  | .accel | .locking | .locked | .braking | .rundown => { c.rest .coast with inRun := 0, outRun := 0 }
  | .coast | .stopped => c

theorem State.coastOrder_eq (s : State) : s.coastOrder = { s with spc := s.spc.coasted } := by
  unfold State.coastOrder Spc.coasted
  cases s.spc.state <;> rfl

/-- The spindle after a brake order (R72). -/
def Spc.braked (c : Spc) : Spc :=
  if c.permit then
    match c.state with
    | .accel | .locking | .locked | .coast =>
      { c with
        state := .braking, dir := .rev, duty := 255, inRun := 0, outRun := 0, spinTimer := c.spinTimer.stop }
    | .braking | .rundown | .stopped => c
  else c.coasted

theorem State.brakeOrder_eq (s : State) : s.brakeOrder = { s with spc := s.spc.braked } := by
  unfold State.brakeOrder Spc.braked
  split
  case isTrue => cases s.spc.state <;> rfl
  case isFalse => exact s.coastOrder_eq

theorem Spc.braked_turning {c : Spc} (permit : c.permit = true)
    (turning : c.state = .accel ∨ c.state = .locking ∨ c.state = .locked) :
    c.braked =
      { c with
        state := .braking, dir := .rev, duty := 255, inRun := 0, outRun := 0
        spinTimer := { c.spinTimer with running := false } } := by
  unfold Spc.braked
  rw [if_pos permit]
  rcases turning with state | state | state <;> rw [state] <;> rfl

/-- The spindle after the permit has been withdrawn (R65). -/
def Spc.cut (c : Spc) : Spc := ({ c with permit := false, duty := 0, pwm := .cut } : Spc).coasted

theorem State.withdrawPermit_eq (s : State) : s.withdrawPermit = { s with spc := s.spc.cut } :=
  State.coastOrder_eq _

theorem Spc.cut_fields (c : Spc) :
    c.cut.permit = false ∧ c.cut.duty = 0 ∧ c.cut.pwm.out = 0 ∧
      c.cut.state = (if c.state = .stopped then .stopped else .coast) := by
  have states : ({ c with permit := false, duty := 0, pwm := Pwm.cut } : Spc).state = c.state := rfl
  unfold Spc.cut Spc.coasted
  rw [states]
  cases c.state <;> simp [Spc.rest, Pwm.cut]

/-- The sled after a stop order (R79). -/
def Slc.halted (c : Slc) : Slc :=
  match c.state with
  | .seekDrive | .homing | .trackingFollow => c.rest
  | .unknown | .idle | .atHome => c

theorem State.sledStop_eq (s : State) : s.sledStop = { s with slc := s.slc.halted } := by
  unfold State.sledStop Slc.halted
  cases s.slc.state <;> rfl

/-! ### The end of a move -/

/-- The result of a move of Port D that stands alone (R132). -/
def State.loneResult (s : State) (m : ActiveMove) (o : MoveOutcome) (measured : Option Nat) : Result :=
  { port := .portD, ticket := m.ticket, kind := m.kind, urgent := false, chained := m.chain, outcome := o
    trackIndex := s.pru.trackIndex, anchorBlock := s.pru.anchor.map (·.block), corrections := s.mve.corrections
    elapsed := s.mve.elapsed, last := true, measured := measured }

/-- A move of Port D that stands alone in the Arbiter, its entry all that the queues and the slot hold (R132, R148). -/
structure Arb.Lone (v : Arb) (m : ActiveMove) : Prop where
  port : m.port = .portD
  unhurried : m.urgent = false
  source : v.source = .queueD
  alone : v.queueD.length = 1
  otherQueue : v.queueP = []
  slot : v.urgent = none

theorem State.LoneMove.lone {m : ActiveMove} (lone : s.LoneMove m) : s.arb.Lone m :=
  ⟨lone.2.1, lone.2.2.1, lone.2.2.2.1, lone.2.2.2.2.1, lone.2.2.2.2.2.1, lone.2.2.2.2.2.2⟩

theorem Arb.Lone.mark {v : Arb} {m : ActiveMove} (lone : v.Lone m) (mark : Option Mark) :
    ({ v with mark := mark } : Arb).Lone m := { lone with }

/-- The Arbiter when the lone move of Port D has left its queue. -/
def Arb.emptied (v : Arb) (claim : Claim) : Arb := { v with queueD := [], source := .none, claim := claim }

theorem Arb.Lone.arbComplete {m : ActiveMove} (lone : s.arb.Lone m) (o : Option MoveOutcome) (chain : Bool) :
    s.arbComplete o chain =
      { s with arb := s.arb.emptied (if o = some .done ∧ chain = true then .queueD else .none) } := by
  have tail : s.arb.queueD.tail = [] := List.eq_nil_of_length_eq_zero (by rw [List.length_tail, lone.alone])
  have quiet : ¬((s.queueOf .portD).length = Config.queueDepth ∧ ([] : List Entry).length < Config.queueDepth) := by
    rintro ⟨full, -⟩
    exact absurd (lone.alone.symm.trans full) (by decide)
  have shrunk : s.shrinkQueue .portD s.arb.queueD.tail = s.setQueue .portD [] := by
    rw [tail]
    exact if_neg quiet
  unfold State.arbComplete
  rw [lone.source, shrunk]
  rfl

theorem Arb.Lone.storeResult {m : ActiveMove} (lone : s.arb.Lone m) (room : s.pifD.older = none) (o : MoveOutcome)
    (measured : Option Nat) :
    s.storeResult (s.resultOf m o measured) =
      { s with pifD := ({ s.pifD with older := some (s.loneResult m o measured) } : Pif).told .result } := by
  have tail : (s.queueOf .portD).tail.isEmpty = true :=
    List.isEmpty_iff.mpr (List.eq_nil_of_length_eq_zero (by rw [List.length_tail]; exact congrArg (· - 1) lone.alone))
  have result : s.resultOf m o measured = s.loneResult m o measured := by
    unfold State.resultOf State.loneResult
    simp [lone.port, lone.unhurried, tail]
  have port : (s.loneResult m o measured).port = .portD := rfl
  rw [result]
  unfold State.storeResult
  simp only [port, State.pif_portD, room]
  rfl

theorem Arb.Lone.finishMove {m : ActiveMove} (lone : s.arb.Lone m) (room : s.pifD.older = none) (o : MoveOutcome)
    (measured : Option Nat) :
    s.finishMove (some m) o measured =
      { s with
        arb := s.arb.emptied (if o = .done ∧ m.chain = true then .queueD else .none)
        pifD := ({ s.pifD with older := some (s.loneResult m o measured) } : Pif).told .result } := by
  unfold State.finishMove
  dsimp only
  rw [lone.storeResult room, Arb.Lone.arbComplete (m := m) ?_]
  · simp only [Option.some.injEq]
  · exact lone

/-- Once the lone move has left, nothing waits. -/
theorem Arb.Lone.arbitrate {v : Arb} {m : ActiveMove} {t : State} {claim : Claim} (lone : v.Lone m)
    (left : t.arb = { v.emptied claim with mark := t.arb.mark }) : t.arbitrate = t := by
  refine State.NothingWaits.arbitrate ⟨?_, ?_, ?_⟩ <;> rw [left]
  · exact lone.otherQueue
  · rfl
  · exact lone.slot

/-! ### Faults -/

/-- The fault record of a fault that is latched (R164). -/
def State.faultRecord (s : State) (k : FaultKind) : FaultRecord :=
  { kind := k, drive := s.dsv.drive
    active := s.mve.active.map fun m => { port := m.port, ticket := m.ticket, kind := m.kind }
    trackIndex := s.pru.trackIndex, period := s.spc.tm }

theorem State.latchFault_eq (clear : s.dsv.record = none) (k : FaultKind) :
    s.latchFault k =
      { s with
        dsv := { s.dsv with record := some (s.faultRecord k) }, pifP := s.pifP.told .fault, pifD := s.pifD.told .fault } := by
  unfold State.latchFault
  rw [clear]
  rfl

theorem State.endWork_left (s : State) (d : DriveState) : s.endWork.mve.left d = s.endWork.mve := by
  unfold Mve.left
  split
  case isTrue => rfl
  case isFalse => rfl

/-- The state that a fault leaves behind before the result of the move that it ends (R164, R165). -/
def State.faulted (s : State) (k : FaultKind) : State :=
  { s with
    track := s.track.emptied .opened, focus := s.focus.emptied, dfe := s.dfe.ordered s.track.state .opened
    slc := s.slc.halted, spc := s.spc.braked, mve := s.endWork.mve, pru := s.pru.dropped
    arb := { s.arb with mark := none }
    dsv :=
      { s.dsv with
        drive := .faulted, laser := false, recovery := .none, record := some (s.faultRecord k) }
    pifP := ((s.pifP.told .fault).told .driveState).unmarked s.arb.mark
    pifD := (s.pifD.told .fault).told .driveState }

/-- A fault with no record latched, outside FAULTED and POWER_HOLD: the fault stop in one record. -/
theorem State.fault_eq (running : s.dsv.drive ≠ .faulted) (supplied : s.dsv.drive ≠ .powerHold)
    (clear : s.dsv.record = none) (k : FaultKind) :
    s.fault k = (s.faulted k).finishMove s.mve.active .fault none := by
  unfold State.fault State.faultStop
  dsimp only
  rw [if_neg (not_or.mpr ⟨running, supplied⟩), State.latchFault_eq clear, State.focusOpen_eq]
  rw [State.sledStop_eq, State.brakeOrder_eq]
  rw [State.setDrive_unsettled ?_ rfl]
  · refine congrArg (fun t : State => t.finishMove s.mve.active .fault none) ?_
    unfold State.faulted
    congr 1
    exact s.endWork_left _
  · exact running.symm

end Sys2Proof.Machine
end

section
/-!
PROOFS. The expiries of the close timer, of the Move Engine's phases and of an address wait (chapters 2 and 6).
-/

namespace Sys2Proof.Machine

variable {s : State}

/-! ### Close timeouts -/

theorem State.closeDue_closing (closing : s.track.state = .closing) (due : s.prm.closeTo ≤ s.track.closeTimer + 1) :
    s.closeDue = true := by
  simp [State.closeDue, closing, due]

/-- A failed close with nothing that waits for it is disregarded (R107, R110). -/
theorem State.onCloseFailed_unawaited (unawaited : s.closeAwaited = false) : s.onCloseFailed = s := by
  simp only [State.closeAwaited, Bool.or_eq_false_iff, decide_eq_false_iff_not] at unawaited
  obtain ⟨⟨⟨settled, phase⟩, jump⟩, activity⟩ := unawaited
  unfold State.onCloseFailed
  rw [settled, if_neg Bool.false_ne_true, if_neg phase, if_neg jump, if_neg activity]

theorem State.onCloseFailed_retries (settled : s.mve.settling = false) (phase : s.mve.phase = .close)
    (left : s.mve.closeTries < s.prm.trackTries) (lens : s.lensTaken = true) :
    s.onCloseFailed =
      ({ s with mve := { s.mve with closeTries := s.mve.closeTries + 1 } } : State).closeCommand := by
  unfold State.onCloseFailed
  rw [settled, if_neg Bool.false_ne_true, if_pos phase, if_pos ⟨left, lens⟩]

theorem TrackLoop.closing_again {r : TrackLoop} (closing : r.state = .closing) :
    r.closing =
      { r with drive := 0, integ := 0, ePrev := 0, resume := false, kick := .none, closeTimer := 0 } := by
  rw [TrackLoop.closing, ← closing]

/-- Settles O25: the retry of a close phase, and a close that nothing waits for. -/
theorem closeTimeoutRetries : Obligations.CloseTimeoutRetries := by
  intro s high still closing due
  have dueNow := State.closeDue_closing closing due
  have change : TrackState.opened ≠ s.track.state := by rw [closing]; decide
  refine ⟨fun settled phase left lens => ?_, fun unawaited => ⟨?_, ?_⟩⟩
  · have awaited : (s.closeDue && s.closeAwaited) = true := by
      simp [dueNow, State.closeAwaited, phase]
    have fails : s.closeFails =
        { s with
          track := s.track.closing, dfe := { s.dfe with armed := .none }
          mve := { s.mve with closeTries := s.mve.closeTries + 1 } } := by
      unfold State.closeFails
      rw [State.setTrack_change ?_, State.onCloseFailed_retries ?_ ?_ ?_ ?_, State.closeCommand_eq ?_, still.idle ?_]
      · rfl
      · exact ⟨rfl, rfl, rfl, rfl, rfl, ⟨rfl, rfl, rfl⟩, ⟨rfl, rfl, rfl⟩⟩
      · exact lens
      · exact settled
      · exact phase
      · exact left
      · exact lens
      · exact change
    rw [TrackLoop.closing_again closing] at fails
    exact ⟨congrArg Host.Outcome.next ((State.when_due high dueNow _).trans fails),
      congrArg Host.Outcome.next ((State.when_due high awaited _).trans fails)⟩
  · exact congrArg Host.Outcome.next (State.when_not_due (by rw [unawaited, Bool.and_false]) _)
  · refine congrArg Host.Outcome.next ((State.when_due high dueNow _).trans ?_)
    unfold State.closeFails
    rw [State.setTrack_change ?_, State.onCloseFailed_unawaited ?_, still.idle ?_]
    · rfl
    · exact ⟨rfl, rfl, rfl, rfl, rfl, ⟨rfl, rfl, rfl⟩, ⟨rfl, rfl, rfl⟩⟩
    · exact unawaited
    · exact change

/-! ### Phases that time out -/

theorem MoveKind.flagsTimeout_eq (k : MoveKind) : (!k.flagsTimeout) = decide (k = .seekBlock ∨ k = .resumeMark) := by
  cases k <;> rfl

theorem State.timedOut_flag {m : ActiveMove} (active : s.mve.active = some m) :
    (s.mve.timedOut || !s.seekingBlock) = if m.kind = .seekBlock ∨ m.kind = .resumeMark then s.mve.timedOut else true := by
  have seeking : s.seekingBlock = decide (m.kind = .seekBlock ∨ m.kind = .resumeMark) := by
    unfold State.seekingBlock
    rw [active, Option.any_some, MoveKind.flagsTimeout_eq]
  rw [seeking]
  by_cases seeks : m.kind = .seekBlock ∨ m.kind = .resumeMark <;> simp [seeks]

/-- A close phase that starts in answer to an expiry (R107); the move goes on, and no grant follows. -/
theorem State.closes_after_expiry {m : ActiveMove} {v : Mve} {c : Slc} (active : v.active = some m)
    (lens : s.lensTaken = true) (change : s.track.state ≠ .closing) :
    ({ s with mve := v, slc := c } : State).startClosePhase.arbitrate =
      { s with
        track := s.track.closing, dfe := { s.dfe with armed := .none }, slc := c
        mve := { v with phase := .close, closeTries := 1, settling := false } } := by
  rw [State.startClosePhase_taken ?_ ?_, State.arbitrate_busy (State.pickupFree_active (m := m) ?_)]
  · exact active
  · exact lens
  · exact change

/-- Settles O29: the three expiries, each with its flag. -/
theorem timedOutPhasesClose : Obligations.TimedOutPhasesClose := by
  intro s m high active lens change
  dsimp only
  rw [← State.timedOut_flag active]
  refine ⟨fun phase running due => ?_, fun phase running due => ?_, fun phase running due => ?_⟩
  · have dueNow : s.jumpDue = true := by
      simp only [State.jumpDue, phase, decide_true, Bool.true_and]
      exact (Timer.dueAt_iff _ _).mpr ⟨running, due⟩
    exact congrArg Host.Outcome.next ((State.when_due high dueNow _).trans
      (State.closes_after_expiry (c := s.slc) active lens change))
  · have dueNow : s.seekDue = true := by
      simp only [State.seekDue, phase, decide_true, Bool.true_and]
      exact (Timer.dueAt_iff _ _).mpr ⟨running, due⟩
    refine congrArg Host.Outcome.next ((State.when_due high dueNow _).trans ?_)
    unfold State.seekTimesOut
    rw [State.sledStop_eq, State.sledStop_eq]
    exact State.closes_after_expiry (c := s.slc.halted) active lens change
  · have dueNow : s.gapDue = true := by
      simp only [State.gapDue, phase, decide_true, Bool.true_and]
      exact (Timer.dueAt_iff _ _).mpr ⟨running, due⟩
    exact congrArg Host.Outcome.next ((State.when_due high dueNow _).trans
      (State.closes_after_expiry (c := s.slc) active lens change))

/-! ### Address waits -/

theorem State.waitDue_running (phase : s.mve.phase = .addressWait) (running : s.mve.waitTimer.running = true)
    (due : s.mve.waitLimit ≤ s.mve.waitTimer.count + 1) : s.waitDue = true := by
  simp only [State.waitDue, phase, decide_true, Bool.true_and]
  exact (Timer.dueAt_iff _ _).mpr ⟨running, due⟩

theorem State.correctWith_corrects {miss : MoveOutcome} {go : State → State} (left : s.mve.corrections < s.prm.seekCorr)
    (held : s.pru.zones.inRange s.mve.target = true) :
    s.correctWith miss go =
      go ((({ s with
              mve :=
                { s.mve with waitTimer := s.mve.waitTimer.stop, corrections := s.mve.corrections + 1 } } :
            State).bump .seekCorrection).aimAt s.mve.target) := by
  unfold State.correctWith
  dsimp only
  rw [if_neg (Nat.not_le.mpr left), if_pos held]

theorem State.correctWith_exhausted {miss : MoveOutcome} {go : State → State}
    (spent : s.prm.seekCorr ≤ s.mve.corrections) :
    s.correctWith miss go =
      (({ s with mve := { s.mve with waitTimer := s.mve.waitTimer.stop } } : State).bump .seekMiss).completeMove miss
        none := if_pos spent

theorem State.completeMove_eq {m : ActiveMove} {d : DriveState} (active : s.mve.active = some m)
    (after : m.kind.driveAfter s.mve.returnState = some d) (o : MoveOutcome) (measured : Option Nat) :
    s.completeMove o measured = (s.endMove.setDrive d).finishMove (some m) o measured := by
  unfold State.completeMove
  simp only [active, after]

/-- A lone move of Port D that completes by its own decision, where the entry to its drive state takes no anchor, mark or
holding jump away, and the choice after it (R105, R106). -/
theorem Arb.Lone.completes {m : ActiveMove} {d : DriveState} (lone : s.arb.Lone m) (active : s.mve.active = some m)
    (after : m.kind.driveAfter s.mve.returnState = some d) (room : s.pifD.older = none)
    (entry : s.endMove.setDrive d =
      ({ s.endMove with dsv := { s.dsv with drive := d } } : State).raiseBoth .driveState) (o : MoveOutcome) :
    (s.completeMove o none).arbitrate =
      { s with
        mve := s.mve.endMove, dsv := { s.dsv with drive := d }
        arb := s.arb.emptied (if o = .done ∧ m.chain = true then .queueD else .none)
        pifP := s.pifP.told .driveState
        pifD := ({ s.pifD.told .driveState with older := some (s.loneResult m o none) } : Pif).told .result } := by
  rw [State.completeMove_eq active after, entry, Arb.Lone.finishMove ?_ ?_,
    lone.arbitrate (claim := if o = .done ∧ m.chain = true then .queueD else .none) ?_]
  · rfl
  · rfl
  · exact lone
  · exact room

/-- The entry to TRACKING from MOVING (R157). -/
theorem State.endMove_setDrive_tracking (moving : s.dsv.drive = .moving) :
    s.endMove.setDrive .tracking =
      ({ s.endMove with dsv := { s.dsv with drive := .tracking } } : State).raiseBoth .driveState := by
  refine State.setDrive_settled ?_ rfl ?_
  · show DriveState.tracking ≠ s.dsv.drive
    rw [moving]
    decide
  · show s.dsv.drive ≠ .holding
    rw [moving]
    decide

theorem State.aimDistance_reached {n : Int} (reached : s.pru.zones.trackOf s.mve.aim = some n) : s.aimDistance n = 0 := by
  unfold State.aimDistance
  rw [reached]
  exact sub_self n

/-- Settles O31: the correction without motion, and the seek that ends without an address. -/
theorem addressWaitExpires : Obligations.AddressWaitExpires := by
  intro s m high phase running due
  dsimp only
  have expires := State.when_due high (State.waitDue_running phase running due) State.waitExpires
  refine ⟨fun active left held reached => ?_, fun lone kind spent moving returns room => ?_⟩
  · refine congrArg Host.Outcome.next (expires.trans ?_)
    have corrected :
        ({ s with mve := { s.mve with waitTimer := s.mve.waitTimer.expired } } : State).correctOnExpiry =
          (({ s with
              mve :=
                { s.mve with
                  phase := .addressWait, corrections := s.mve.corrections + 1
                  aim := max (s.mve.target - s.prm.seekWin / 2) s.pru.zones.firstBlock
                  waitLimit := max s.prm.addrWait 20, waitTimer := { count := 0, running := true } } } : State).bump
            .seekCorrection) := by
      unfold State.correctOnExpiry
      rw [State.correctWith_corrects ?_ ?_]
      · dsimp only
        rw [if_pos ?_, State.bump_eq, State.bump_eq]
        · rfl
        · exact State.aimDistance_reached (by rw [State.bump_eq]; exact reached)
      · exact left
      · exact held
    unfold State.waitExpires
    rw [corrected, State.bump_eq, State.arbitrate_busy (State.pickupFree_active (m := m) ?_), ← phase, State.bump_eq]
    exact active
  · have alone := lone.lone
    obtain ⟨active, -⟩ := lone
    have after : m.kind.driveAfter s.mve.returnState = some .tracking := by rw [kind]; exact returns
    have missed :
        ({ s with mve := { s.mve with waitTimer := s.mve.waitTimer.expired } } : State).correctOnExpiry =
          (({ s with mve := { s.mve with waitTimer := s.mve.waitTimer.expired } } : State).bump .seekMiss).completeMove
            .noAddress none := State.correctWith_exhausted spent
    have ends := expires
    unfold State.waitExpires at ends
    rw [missed, State.bump_eq, Arb.Lone.completes (m := m) ?_ ?_ ?_ ?_ ?_] at ends
    · exact ⟨_, congrArg Host.Outcome.next ends, rfl, rfl, rfl, by rw [← kind]; rfl⟩
    · exact alone
    · exact active
    · exact after
    · exact room
    · exact State.endMove_setDrive_tracking moving

end Sys2Proof.Machine
end

section
/-!
PROOFS. The HOME switch, a disc that stops, and the sled that is stuck (chapters 4 and 6).
-/

namespace Sys2Proof.Machine

variable {s : State}

/-! ### The HOME switch -/

/-- The track index set on a record that is not anchored (R63, R83). -/
theorem State.setIndex_unanchored (unanchored : s.pru.anchor = none) (n : Int) :
    s.setIndex n =
      { s with
        pru := { s.pru with trackIndex := n }
        spc :=
          { s.spc with
            target := if n = s.pru.trackIndex then s.spc.target else targetPeriod n s.prm.sf s.prm.kclv } } := by
  by_cases same : n = s.pru.trackIndex
  · unfold State.setIndex
    rw [if_pos same, if_pos same, same]
  · rw [State.setIndex_change same, if_neg same]
    exact State.formEstimate_unanchored unanchored

theorem State.onSledHomed_start {m : ActiveMove} (active : s.mve.active = some m) (kind : m.kind = .start)
    (phase : s.mve.phase = .homing) : s.onSledHomed = s.startSearch := by
  unfold State.onSledHomed
  simp only [active, phase, kind]

theorem State.startSearch_lit (laser : s.dsv.laser = true) :
    s.startSearch =
      { s with
        mve := { s.mve with phase := .search, settling := false }, track := s.track.emptied .opened
        focus := s.focus.searching s.prm.searchSpan, dfe := s.dfe.ordered s.track.state .opened } := by
  unfold State.startSearch
  exact (if_pos (c := s.searchTaken = true) laser).trans (State.searchCommand_taken laser)

theorem execHomeSwitchChange_reached (high : s.rstnLow = false) (away : s.homePin = false) :
    execHomeSwitchChange true s = .next (({ s with homePin := true } : State).homeReached.arbitrate) := by
  unfold execHomeSwitchChange
  rw [away, high]
  rfl

/-- Settles O34: the homing of START, the limit of a duty, and the rows that bring no event. -/
theorem homeSwitchActs : Obligations.HomeSwitchActs := by
  intro s high
  refine ⟨fun away homing unanchored laser m active kind phase => ?_, fun away resting still => ?_, fun home => ?_, rfl⟩
  · have run := execHomeSwitchChange_reached high away
    unfold State.homeReached State.homingComplete at run
    rw [if_pos (show ({ s with homePin := true } : State).slc.state = .homing from homing),
      State.setIndex_unanchored ?_, State.onSledHomed_start (m := m) ?_ ?_ ?_, State.startSearch_lit ?_,
      State.arbitrate_busy (State.pickupFree_active (m := m) ?_)] at run
    · exact ⟨_, run, rfl, fun change => if_neg (Ne.symm change), rfl, rfl, rfl⟩
    · exact active
    · exact laser
    · exact active
    · exact kind
    · exact phase
    · exact unanchored
  · refine (execHomeSwitchChange_reached high away).trans (congrArg Host.Outcome.next ?_)
    unfold State.homeReached
    rw [if_neg (show ¬({ s with homePin := true } : State).slc.state = .homing from resting), still.idle ?_]
    exact ⟨rfl, rfl, rfl, rfl, rfl, ⟨rfl, rfl, rfl⟩, ⟨rfl, rfl, rfl⟩⟩
  · show execHomeSwitchChange true s = _
    unfold execHomeSwitchChange
    dsimp only
    rw [if_neg (by simp [home])]
    exact congrArg (fun level => Host.Outcome.next ({ s with homePin := level } : State)) home.symm

/-! ### A disc that stops -/

theorem State.onSpindleStopped_free (free : s.mve.active = none) : s.onSpindleStopped = s := by
  unfold State.onSpindleStopped
  rw [free]

theorem State.onSpindleStopped_stop {m : ActiveMove} (active : s.mve.active = some m) (kind : m.kind = .stop)
    (phase : s.mve.phase = .spinDown) : s.onSpindleStopped = s.completeMove .done none := by
  unfold State.onSpindleStopped
  simp only [active, phase, kind]

/-- Settles O27: the spindle at rest, and the completion of a STOP. -/
theorem spindleStoppedEndsStop : Obligations.SpindleStoppedEndsStop := by
  intro s high out due
  dsimp only
  have dueNow : s.stopDue = true := by
    have runs : s.spc.state.runsOut = true := by rcases out with state | state | state <;> rw [state] <;> rfl
    simp only [State.stopDue, runs, Bool.true_and, decide_eq_true_eq]
    exact due
  have stops := State.when_due high dueNow State.spindleStops
  unfold State.spindleStops at stops
  refine ⟨fun free still => ?_, fun m lone kind phase stopping unanchored unmarked room => ?_⟩
  · rw [State.onSpindleStopped_free ?_, still.idle ?_] at stops
    · exact congrArg Host.Outcome.next stops
    · exact ⟨rfl, rfl, rfl, rfl, rfl, ⟨rfl, rfl, rfl⟩, ⟨rfl, rfl, rfl⟩⟩
    · exact free
  · have alone := lone.lone
    obtain ⟨active, -⟩ := lone
    rw [State.onSpindleStopped_stop (m := m) ?_ kind ?_, Arb.Lone.completes (m := m) (d := .idle) ?_ ?_ ?_ ?_ ?_] at stops
    · refine ⟨_, congrArg Host.Outcome.next stops, rfl, ?_, rfl, rfl, ?_⟩
      · show (if MoveOutcome.done = .done ∧ m.chain = true then Claim.queueD else .none) = _
        simp only [true_and]
      · rw [← kind]
        unfold State.loneResult
        simp only [unanchored]
        rfl
    · exact alone
    · exact active
    · rw [kind]; rfl
    · exact room
    · refine State.setDrive_plain ?_ unanchored unmarked ?_
      · show DriveState.idle ≠ s.dsv.drive
        rw [stopping]
        decide
      · show s.dsv.drive ≠ .holding
        rw [stopping]
        decide
    · exact active
    · exact phase

/-! ### Faults that end a lone move, or find none -/

theorem State.fault_free (running : s.dsv.drive ≠ .faulted) (supplied : s.dsv.drive ≠ .powerHold)
    (clear : s.dsv.record = none) (free : s.mve.active = none) (nothing : s.NothingWaits) (k : FaultKind) :
    (s.fault k).arbitrate = s.faulted k := by
  rw [State.fault_eq running supplied clear, free]
  exact State.NothingWaits.arbitrate nothing

/-- A fault that ends a lone move of Port D, and the choice after it (R106, R164, R165). -/
theorem Arb.Lone.faults {m : ActiveMove} (lone : s.arb.Lone m) (active : s.mve.active = some m)
    (running : s.dsv.drive ≠ .faulted) (supplied : s.dsv.drive ≠ .powerHold) (clear : s.dsv.record = none)
    (room : s.pifD.older = none) (k : FaultKind) :
    (s.fault k).arbitrate =
      { s.faulted k with
        arb := ({ s.arb with mark := none } : Arb).emptied .none
        pifD :=
          ({ (s.faulted k).pifD with older := some ((s.faulted k).loneResult m .fault none) } : Pif).told .result } := by
  rw [State.fault_eq running supplied clear, active, Arb.Lone.finishMove ?_ ?_,
    (lone.mark none).arbitrate (claim := .none) ?_]
  · rfl
  · rfl
  · exact lone.mark none
  · exact room

/-! ### The stuck sled -/

theorem State.onSledStuck_free (free : s.mve.active = none) : s.onSledStuck = s := by
  unfold State.onSledStuck
  rw [free]

theorem State.onSledStuck_homing {m : ActiveMove} (active : s.mve.active = some m) (phase : s.mve.phase = .homing) :
    s.onSledStuck = s.fault .sledStuck := by
  unfold State.onSledStuck
  simp only [active, phase]

/-- Settles O28: the sled at rest, and the fault of a move in its homing. -/
theorem sledStuckFaultsHoming : Obligations.SledStuckFaultsHoming := by
  intro s high homing running due
  dsimp only
  have dueNow : s.stuckDue = true := by
    simp only [State.stuckDue, homing, decide_true, Bool.true_and]
    exact (Timer.dueAt_iff _ _).mpr ⟨running, due⟩
  have sticks := State.when_due high dueNow State.sledSticks
  unfold State.sledSticks at sticks
  refine ⟨fun free still => ?_, fun m lone phase drive clear unmarked room => ?_⟩
  · rw [State.onSledStuck_free ?_, still.idle ?_] at sticks
    · exact congrArg Host.Outcome.next sticks
    · exact ⟨rfl, rfl, rfl, rfl, rfl, ⟨rfl, rfl, rfl⟩, ⟨rfl, rfl, rfl⟩⟩
    · exact free
  · have alone := lone.lone
    obtain ⟨active, port, -⟩ := lone
    rw [State.onSledStuck_homing (m := m) ?_ ?_, Arb.Lone.faults (m := m) ?_ ?_ ?_ ?_ ?_ ?_] at sticks
    · refine ⟨_, congrArg Host.Outcome.next sticks, ?_, rfl, rfl, rfl, s.pru.dropped_anchor, ?_, rfl⟩
      · rw [State.brakeOrder_eq, ← unmarked]
        rfl
      · unfold State.faulted State.faultRecord
        simp only [active, Option.map_some, port]
    · exact alone
    · exact active
    · rcases drive with drive | drive <;> simp [drive]
    · rcases drive with drive | drive <;> simp [drive]
    · exact clear
    · exact room
    · exact active
    · exact phase

end Sys2Proof.Machine
end

section
/-!
PROOFS. The supply-low event, the faults of the spin timer and of an overload, and the standing hold with its recovery
(chapters 3, 6 and 8).
-/

namespace Sys2Proof.Machine

variable {s : State}

/-! ### Supply low -/

theorem State.eq_iff {s t : State} :
    s = t ↔
      s.rstnLow = t.rstnLow ∧ s.lowvPin = t.lowvPin ∧ s.homePin = t.homePin ∧ s.prm = t.prm ∧ s.dfe = t.dfe ∧
        s.focus = t.focus ∧ s.track = t.track ∧ s.dmn = t.dmn ∧ s.spc = t.spc ∧ s.slc = t.slc ∧ s.pru = t.pru ∧
        s.mve = t.mve ∧ s.arb = t.arb ∧ s.dsv = t.dsv ∧ s.pifP = t.pifP ∧ s.pifD = t.pifD ∧ s.ctb = t.ctb ∧
        s.pending = t.pending := by
  cases s
  cases t
  exact State.mk.injEq .. ▸ Iff.rfl

/-- The end of a move reaches the Arbiter and the two ports alone (R106). -/
theorem State.finishMove_eq (s : State) (m : Option ActiveMove) (o : MoveOutcome) (v : Option Nat) :
    s.finishMove m o v =
      { s with
        arb := (s.finishMove m o v).arb, pifP := (s.finishMove m o v).pifP, pifD := (s.finishMove m o v).pifD } :=
  State.eq_iff.mpr (by simp)

/-- A port's interface after an order to a drive state, which a state that stands does not raise (R157). -/
def Pif.hears (v : Pif) (before after : DriveState) : Pif := if after = before then v else v.told .driveState

@[simp] theorem Pif.hears_older (v : Pif) (before after : DriveState) : (v.hears before after).older = v.older := by
  unfold Pif.hears
  split <;> rfl

/-- An unsettled drive state ordered where anchor, mark and holding jump are gone already. -/
theorem State.setDrive_bare {d : DriveState} (unanchored : s.pru.anchor = none) (unmarked : s.arb.mark = none)
    (left : s.mve.left s.dsv.drive = s.mve) (unsettled : d.settled = false) :
    s.setDrive d =
      { s with
        dsv := { s.dsv with drive := d }, pifP := s.pifP.hears s.dsv.drive d
        pifD := s.pifD.hears s.dsv.drive d } := by
  by_cases same : d = s.dsv.drive
  · unfold State.setDrive Pif.hears
    rw [if_pos same, if_pos same, if_pos same, same]
  · have bare : ({ s.arb with mark := none } : Arb) = s.arb := by rw [← unmarked]
    unfold Pif.hears
    rw [State.setDrive_unsettled same unsettled, left, Pru.dropped_unanchored unanchored, bare, unmarked, if_neg same,
      if_neg same]
    rfl

/-- The state that a supply-low event leaves behind before the result of the move that it ends (R167). -/
def State.unsupplied (s : State) : State :=
  { s with
    dsv := { s.dsv with lowv := true, laser := false, recovery := .none, drive := .powerHold }
    spc := s.spc.cut, slc := s.slc.halted, track := s.track.emptied .opened, focus := s.focus.emptied
    dfe := s.dfe.ordered s.track.state .opened, mve := s.endWork.mve, pru := s.pru.dropped
    arb := { s.arb with mark := none }
    pifP := (s.pifP.unmarked s.arb.mark).hears s.dsv.drive .powerHold
    pifD := s.pifD.hears s.dsv.drive .powerHold }

theorem State.lowvEvent_eq (s : State) : s.lowvEvent = s.unsupplied.finishMove s.mve.active .powerDip none := by
  unfold State.lowvEvent
  dsimp only
  rw [State.withdrawPermit_eq, State.focusOpen_eq, State.sledStop_eq, State.dropAnchor_eq, State.clearMark_told,
    State.setDrive_bare ?_ ?_ ?_ rfl, State.arbitrate_busy ?_]
  · rfl
  · simp [State.pickupFree]
  · exact s.pru.dropped_anchor
  · rfl
  · exact s.endWork_left _

/-- Settles O35: the event's one record, with what the end of a move adds to it. -/
theorem lowSupplyHolds : Obligations.LowSupplyHolds := by
  intro s high deasserted
  have run : exec .lowvAssertion s = .next ({ s with lowvPin := true } : State).lowvEvent := by
    show execLowvAssertion s = _
    unfold execLowvAssertion
    rw [deasserted, high]
    rfl
  have event := State.lowvEvent_eq { s with lowvPin := true }
  obtain ⟨permit, duty, out, state⟩ := s.spc.cut_fields
  refine ⟨_, run, ?_⟩
  rw [event]
  refine ⟨?_, ?_⟩
  · rw [State.finishMove_eq, State.sledStop_eq]
    rfl
  · rw [State.finishMove_eq]
    refine ⟨rfl, rfl, rfl, rfl, permit, duty, out, state, rfl, rfl, rfl, rfl, rfl, rfl, s.pru.dropped_anchor,
      s.pru.dropped_trackIndex, fun free => ?_, fun m lone room => ?_⟩
    · simp only [free]
      rfl
    · have alone := lone.lone
      obtain ⟨active, -⟩ := lone
      simp only [active]
      rw [Arb.Lone.finishMove ?_ ?_]
      · exact ⟨rfl, rfl⟩
      · exact alone.mark none
      · exact (Pif.hears_older _ _ _).trans room

/-! ### Faults with no move active -/

theorem Pif.told_flag (v : Pif) (n : Notice) : (v.told n).flags.getLsbD n.bit = true := by
  unfold Pif.told
  rw [BitVec.getLsbD_or]
  cases n <;> simp [Notice.flag, Notice.bit]

theorem Pif.told_keeps {v : Pif} {i : Nat} (n : Notice) (set : v.flags.getLsbD i = true) :
    (v.told n).flags.getLsbD i = true := by
  unfold Pif.told
  rw [BitVec.getLsbD_or, set, Bool.true_or]

theorem Pif.unmarked_keeps {v : Pif} {i : Nat} (mark : Option Mark) (set : v.flags.getLsbD i = true) :
    (v.unmarked mark).flags.getLsbD i = true := by
  unfold Pif.unmarked
  split
  case isTrue => exact Pif.told_keeps _ set
  case isFalse => exact set

theorem State.faulted_flags (s : State) (k : FaultKind) (p : Port) :
    ((s.faulted k).pif p).flags.getLsbD 9 = true ∧ ((s.faulted k).pif p).flags.getLsbD 7 = true := by
  have both : ∀ v : Pif, ((v.told .fault).told .driveState).flags.getLsbD 9 = true ∧
      ((v.told .fault).told .driveState).flags.getLsbD 7 = true := fun v =>
    ⟨Pif.told_keeps _ (v.told_flag .fault), (v.told .fault).told_flag .driveState⟩
  cases p with
  | portP => exact ⟨Pif.unmarked_keeps _ (both s.pifP).1, Pif.unmarked_keeps _ (both s.pifP).2⟩
  | portD => exact both s.pifD

theorem atLimit_iff (d : Int) : atLimit d = true ↔ d = -2048 ∨ d = 2047 := by
  simp [atLimit]

theorem State.saturated_iff (s : State) :
    s.saturated = true ↔
      ((s.focus.drive = -2048 ∨ s.focus.drive = 2047) ∧ (s.focus.state = .closed ∨ s.focus.state = .held)) ∨
        ((s.track.drive = -2048 ∨ s.track.drive = 2047) ∧ (s.track.state = .closed ∨ s.track.state = .held)) := by
  have focus : ∀ f : FocusState, f.locked = true ↔ f = .closed ∨ f = .held := fun f => by cases f <;> decide
  have track : ∀ r : TrackState, r.follows = true ↔ r = .closed ∨ r = .held := fun r => by cases r <;> decide
  simp only [State.saturated, Bool.or_eq_true, Bool.and_eq_true, atLimit_iff, focus, track]

theorem State.judgeOverload_calm (s : State) :
    s.judgeOverload false = { s with dmn := { s.dmn with overloadRun := 0 } } := rfl

theorem State.judgeOverload_counts (below : min (s.dmn.overloadRun + 1) 65535 < s.prm.overloadN) :
    s.judgeOverload true = { s with dmn := { s.dmn with overloadRun := min (s.dmn.overloadRun + 1) 65535 } } :=
  if_neg (Nat.not_le.mpr below)

theorem State.judgeOverload_faults (reached : s.prm.overloadN ≤ min (s.dmn.overloadRun + 1) 65535) :
    s.judgeOverload true =
      (({ s with dmn := { s.dmn with overloadRun := 0 } } : State).fault .driveOverload).arbitrate :=
  if_pos reached

/-- Settles O26: the two faults by the one record of a fault stop, and the run that leads to the second. -/
theorem spinTimeoutStopsDrive : Obligations.SpinTimeoutStopsDrive := by
  intro s nothing free permit running supplied clear
  dsimp only
  refine ⟨fun high spins timed due => ?_, s.saturated_iff, fun turning reached => ?_, State.judgeOverload_counts,
    s.judgeOverload_calm⟩
  · have dueNow : s.spinDue = true := by
      have up : s.spc.state.spinsUp = true := by rcases spins with state | state <;> rw [state] <;> rfl
      simp only [State.spinDue, up, Bool.true_and]
      exact (Timer.dueAt_iff _ _).mpr ⟨timed, due⟩
    have fails := State.when_due high dueNow State.spinFails
    unfold State.spinFails at fails
    rw [State.fault_free ?_ ?_ ?_ ?_ ?_] at fails
    · refine ⟨_, congrArg Host.Outcome.next fails, ?_, rfl, rfl, rfl, rfl, ?_, Pru.dropped_anchor _,
        Pru.dropped_trackIndex _, rfl, rfl, rfl, rfl, ?_, State.faulted_flags _ _⟩
      · rw [State.sledStop_eq]
        rfl
      · exact Spc.braked_turning permit (spins.imp id .inl)
      · unfold State.faulted State.faultRecord
        simp only [free]
        rfl
    · exact running
    · exact supplied
    · exact clear
    · exact free
    · exact nothing
  · rw [State.judgeOverload_faults reached, State.fault_free ?_ ?_ ?_ ?_ ?_]
    · refine ⟨?_, rfl, rfl, rfl, rfl, ?_, Pru.dropped_anchor _,
        Pru.dropped_trackIndex _, rfl, rfl, rfl, rfl, ?_, State.faulted_flags _ _⟩
      · rw [State.sledStop_eq]
        rfl
      · exact Spc.braked_turning permit turning
      · unfold State.faulted State.faultRecord
        simp only [free]
        rfl
    · exact running
    · exact supplied
    · exact clear
    · exact free
    · exact nothing

end Sys2Proof.Machine
end

section
/-!
PROOFS. The standing hold and the recovery of a lost loop (chapters 6 and 8).
-/

namespace Sys2Proof.Machine

variable {s : State}

/-! ### The standing hold -/

theorem Dfe.ordered_change {v : Dfe} {before after : TrackState} (change : after ≠ before) :
    v.ordered before after = { v with armed := .none } := if_neg change

theorem TrackLoop.kicked_eq (r : TrackLoop) (kick : Nat) (d : Dir) :
    r.kicked kick d =
      { r with
        state := .jumping, kick := .kick, jumpDir := d, integ := 0, ePrev := 0, resume := false
        drive := match d with | .outward => (kick : Int) | .inward => -(kick : Int) } := by
  cases d <;> simp [TrackLoop.kicked, Dir.step]

theorem State.mveRevolution_holding (holding : s.dsv.drive = .holding) (free : s.mve.active = none)
    (jump : s.mve.holdJump = .none) (activity : s.mve.activity = .none) (follows : s.track.state.follows = true) :
    s.mveRevolution = s.startHoldJump := by
  unfold State.mveRevolution
  simp only [free]
  exact if_pos ⟨holding, jump, activity, follows⟩

theorem State.startHoldJump_taken (lens : s.lensTaken = true) :
    s.startHoldJump =
      { s with
        track := s.track.kicked s.prm.kick .inward, dfe := s.dfe.ordered s.track.state .jumping
        mve := { s.mve with holdJump := .jumping, holdTimer := .started, settling := false } } := by
  unfold State.startHoldJump
  rw [if_pos lens, State.jumpCommand_taken ?_]
  exact lens

theorem State.closeHoldJump_taken (lens : s.lensTaken = true) :
    s.closeHoldJump =
      { s with
        track := s.track.closing, dfe := s.dfe.ordered s.track.state .closing
        mve := { s.mve with holdJump := .closing, holdTimer := s.mve.holdTimer.stop, holdTries := 1 } } := by
  unfold State.closeHoldJump
  rw [if_pos lens, State.closeCommand_eq ?_]
  exact lens

theorem State.pickupFree_holdJump (jump : s.mve.holdJump ≠ .none) : s.pickupFree = false := by
  simp [State.pickupFree, jump]

theorem State.pickupFree_activity (activity : s.mve.activity ≠ .none) : s.pickupFree = false := by
  simp [State.pickupFree, activity]

/-! ### Recovery -/

/-- The state that a recovery start leaves behind before its first command, where no move was active (R162). -/
def State.recovering (s : State) (k : Recovery) (v : Mve) : State :=
  { s with
    mve := v, slc := s.slc.halted, dsv := { s.dsv with drive := .recovering, recovery := k }, pru := s.pru.dropped
    arb := { s.arb with mark := none }, pifP := (s.pifP.told .driveState).unmarked s.arb.mark
    pifD := s.pifD.told .driveState }

theorem State.recovering_entry (running : s.dsv.drive ≠ .recovering) (k : Recovery) :
    ({ s.endWork.sledStop.setDrive .recovering with
        dsv := { (s.endWork.sledStop.setDrive .recovering).dsv with recovery := k } } : State) =
      s.recovering k s.endWork.mve := by
  rw [State.sledStop_eq, State.setDrive_unsettled ?_ rfl]
  · exact State.eq_iff.mpr ⟨rfl, rfl, rfl, rfl, rfl, rfl, rfl, rfl, rfl, rfl, rfl, s.endWork_left _, rfl, rfl, rfl, rfl,
      rfl, rfl⟩
  · exact running.symm

theorem State.startRecovery_search (free : s.mve.active = none) (running : s.dsv.drive ≠ .recovering)
    (laser : s.dsv.laser = true) :
    s.startRecovery true =
      { s.recovering .focus { s.endWork.mve with activity := .search, settling := false } with
        track := s.track.emptied .opened, focus := s.focus.searching s.prm.searchSpan
        dfe := s.dfe.ordered s.track.state .opened } := by
  unfold State.startRecovery
  simp only [free, if_true, State.finishMove]
  rw [State.recovering_entry running]
  exact (if_pos (c := s.searchTaken = true) laser).trans (State.searchCommand_taken laser)

theorem State.startRecovery_close (free : s.mve.active = none) (running : s.dsv.drive ≠ .recovering)
    (lens : s.lensTaken = true) :
    s.startRecovery false =
      { s.recovering .tracking { s.endWork.mve with activity := .close, closeTries := 1, settling := false } with
        track := s.track.closing, dfe := s.dfe.ordered s.track.state .closing } := by
  unfold State.startRecovery
  simp only [free, Bool.false_eq_true, if_false, State.finishMove]
  rw [State.recovering_entry running]
  exact (if_pos (c := s.lensTaken = true) lens).trans (State.closeCommand_eq lens)

/-- A focus loss that the run declares (R54, R55). -/
theorem State.judgeFocusLoss_lost (dim : s.dfe.sum < s.prm.sumFloor) (reached : s.prm.flostN ≤ s.dmn.lossRun + 1) :
    s.judgeFocusLoss .closed =
      ((({ s with dmn := { s.dmn with lossRun := 0 } } : State).bump .focusLost).raiseBoth .focusLost).focusLost.arbitrate := by
  have advances : s.lossAdvances .closed = true := by simp [State.lossAdvances, dim]
  have next : s.lossRunNext .closed = s.dmn.lossRun + 1 := if_pos advances
  unfold State.judgeFocusLoss
  rw [next, advances, Bool.true_and, if_pos (decide_eq_true reached)]

theorem State.onTrackingClosed_recovery (settled : s.mve.settling = false) (phase : s.mve.phase ≠ .close)
    (jump : s.mve.holdJump ≠ .closing) (activity : s.mve.activity = .close) : s.onTrackingClosed = s.recovered := by
  unfold State.onTrackingClosed
  rw [settled, if_neg Bool.false_ne_true, if_neg phase, if_neg jump, if_pos activity]

/-- A recovery start tells the drive state to both ports, and what they were told before stays. -/
theorem State.recovering_flags (s : State) (k : Recovery) (v : Mve) (f : FocusLoop) (r : TrackLoop) (d : Dfe) {i : Nat}
    (p : Port) (set : (s.pif p).flags.getLsbD i = true ∨ i = 7) :
    (({ s.recovering k v with track := r, focus := f, dfe := d } : State).pif p).flags.getLsbD i = true := by
  have told : ∀ x : Pif, x.flags.getLsbD i = true ∨ i = 7 → (x.told .driveState).flags.getLsbD i = true := by
    rintro x (kept | rfl)
    · exact Pif.told_keeps _ kept
    · exact x.told_flag .driveState
  cases p with
  | portP => exact Pif.unmarked_keeps _ (told _ set)
  | portD => exact told _ set

/-- Settles O30: the start of a holding jump and its timeout, the two recovery starts, and the end of a recovery. -/
theorem holdingJumpStartsAndTimesOut : Obligations.HoldingJumpStartsAndTimesOut := by
  intro s lens
  have laser : s.dsv.laser = true := ((s.lensTaken_iff).mp lens).1
  refine ⟨fun holding free _ jump activity closed => ?_, fun high jump running due jumping => ?_, fun drive free => ?_,
    fun recovering activity settled phase jump => ?_⟩
  · rw [State.mveRevolution_holding holding free jump activity (by rw [closed]; rfl), State.startHoldJump_taken lens,
      Dfe.ordered_change (by rw [closed]; decide), TrackLoop.kicked_eq]
    rfl
  · have dueNow : s.holdDue = true := by
      simp only [State.holdDue, jump, decide_true, Bool.true_and]
      exact (Timer.dueAt_iff _ _).mpr ⟨running, due⟩
    refine congrArg Host.Outcome.next ((State.when_due high dueNow _).trans ?_)
    unfold State.holdTimesOut
    rw [State.closeHoldJump_taken ?_, Dfe.ordered_change ?_, State.arbitrate_busy (State.pickupFree_holdJump ?_)]
    · rfl
    · exact fun none => nomatch none
    · rw [jumping]; decide
    · exact lens
  · have running : s.dsv.drive ≠ .recovering := by rcases drive with drive | drive <;> simp [drive]
    have recovers : s.dsv.drive.recovers = true := by rcases drive with drive | drive <;> rw [drive] <;> rfl
    refine ⟨fun dim reached => ?_, ?_⟩
    · dsimp only
      rw [State.judgeFocusLoss_lost dim reached, State.bump_eq, State.raiseBoth_eq, State.focusLost, if_pos ?_,
        State.startRecovery_search ?_ ?_ ?_, State.arbitrate_busy (State.pickupFree_activity ?_)]
      · refine ⟨⟨?_, Pru.dropped_anchor _, Pru.dropped_trackIndex _, rfl, rfl, rfl, rfl, fun p => ?_⟩, rfl, rfl, rfl,
          fun p => ?_⟩
        · rw [State.sledStop_eq]
          rfl
        · exact State.recovering_flags _ _ _ _ _ _ p (.inr rfl)
        · refine State.recovering_flags _ _ _ _ _ _ p (.inl ?_)
          cases p <;> exact Pif.told_flag _ .focusLost
      · exact fun none => nomatch none
      · exact free
      · exact running
      · exact laser
      · exact recovers
    · dsimp only
      rw [State.trackingLost, if_pos recovers, State.startRecovery_close free running lens]
      refine ⟨⟨?_, Pru.dropped_anchor _, Pru.dropped_trackIndex _, rfl, rfl, rfl, rfl, fun p => ?_⟩, rfl, rfl, rfl⟩
      · rw [State.sledStop_eq]
        rfl
      · exact State.recovering_flags _ _ _ _ _ _ p (.inr rfl)
  · show s.onTrackingClosed = _
    rw [State.onTrackingClosed_recovery settled (by rw [phase]; decide) (by rw [jump]; decide) activity]
    unfold State.recovered
    rw [State.setDrive_settled ?_ rfl ?_]
    · rfl
    · show DriveState.tracking ≠ s.dsv.drive
      rw [recovering]
      decide
    · show s.dsv.drive ≠ .holding
      rw [recovering]
      decide

end Sys2Proof.Machine
end

section
/-!
PROOFS. Calm servo sample events: the three stages of a sample that emits no crossing and is no shock (chapters 1 to 3).
-/

namespace Sys2Proof.Machine

variable {s : State}

/-! ### The stages of a calm sample -/

theorem judgeCrossing_calm {armed : ArmedSide} {te : Int} {level : Nat} (calm : (te.natAbs : Int) < level) :
    judgeCrossing armed te level = (armed, none) := by
  unfold judgeCrossing
  rw [if_neg (by omega), if_neg (by omega)]

/-- Before the LPR stage a calm sample brings its values alone, where no measurement lasts. -/
theorem State.frontStage_calm {x : SampleInputs} (calm : s.Calm x) (unmeasured : s.mve.phase ≠ .measure) :
    s.frontStage x = { s with dfe := s.seen x } := by
  obtain ⟨level, -⟩ := calm
  have judged := judgeCrossing_calm (armed := s.dfe.armed) level
  have dfe : s.dfeStage x = { s with dfe := s.seen x } := by
    unfold State.dfeStage
    show ({ s with dfe := { s.seen x with armed := (judgeCrossing s.dfe.armed (s.seen x).te s.prm.xingLevel).1 } } : State) = _
    rw [judged]
    rfl
  have none : s.crossingOf x = none := congrArg Prod.snd judged
  unfold State.frontStage
  dsimp only
  rw [none, dfe]
  exact if_neg unmeasured

theorem State.shockSample_calm {t : State} {x : SampleInputs} (calm : s.Calm x) (prm : t.prm = s.prm)
    (ax : t.dfe.ax = (s.seen x).ax) (az : t.dfe.az = (s.seen x).az) : ¬t.shockSample = true := by
  obtain ⟨-, x, z, -⟩ := calm
  rw [State.shockSample_iff, prm, ax, az]
  omega

theorem State.lossRunNext_steady {g : FocusState} (steady : s.lossAdvances g = false) :
    s.lossRunNext g = if g = .held then s.dmn.lossRun else 0 := by
  cases g with
  | closed => exact if_neg (by rw [steady]; exact Bool.false_ne_true)
  | held => rfl
  | opened => rfl
  | search => rfl

/-- The DMN stage once the defect judgement has been made, where the sample advances no loss, is no shock, and finds no drive
at its limit. -/
theorem State.dmnStage_judged {loops u : State} {f g : FocusState} (found : loops.focus.state = f)
    (judged : s.judgeDefect f = u) (left : s.focusLeft f = g) (steady : u.lossAdvances g = false)
    (calm : ¬u.shockSample = true) (window : u.dmn.window = false) (unsaturated : ¬loops.saturated = true) :
    s.dmnStage loops =
      { u with dmn := { u.dmn with lossRun := if g = .held then u.dmn.lossRun else 0, overloadRun := 0 } } := by
  have loss : u.judgeFocusLoss g =
      { u with dmn := { u.dmn with lossRun := if g = .held then u.dmn.lossRun else 0 } } := by
    unfold State.judgeFocusLoss
    rw [steady, State.lossRunNext_steady steady, Bool.false_and, if_neg Bool.false_ne_true]
  unfold State.dmnStage
  dsimp only
  rw [found, judged, left, loss, State.judgeShock_calm ?_ (.inl ?_), Bool.eq_false_iff.mpr unsaturated]
  · rfl
  · exact calm
  · exact window

theorem State.lossAdvances_dense {g : FocusState} (dense : g = .closed → s.prm.sumFloor ≤ s.dfe.sum) :
    s.lossAdvances g = false := by
  by_cases closed : g = .closed
  · simp [State.lossAdvances, dense closed]
  · simp [State.lossAdvances, closed]

/-- The DMN stage where the detector watches and the sample neither completes a dark run nor advances a loss. -/
theorem State.dmnStage_calm {loops : State} (watching : s.dmn.defect = .watching)
    (lit : loops.focus.state = .closed → s.prm.defLevel ≤ s.dfe.rfe ∧ s.prm.sumFloor ≤ s.dfe.sum)
    (unheld : loops.focus.state ≠ .held) (calm : ¬s.shockSample = true) (window : s.dmn.window = false)
    (unsaturated : ¬loops.saturated = true) :
    s.dmnStage loops = { s with dmn := { s.dmn with lowRun := 0, lossRun := 0, overloadRun := 0 } } := by
  generalize found : loops.focus.state = f at lit unheld
  have bright : ¬(f = .closed ∧ s.dark = true) := by
    rintro ⟨closed, dark⟩
    exact absurd (lit closed).1 (by simpa [State.dark] using dark)
  have begins : s.holdBegins f = false := by
    by_cases closed : f = .closed
    · have lighted : s.dark = false := by simpa [closed] using bright
      simp [State.holdBegins, lighted]
    · simp [State.holdBegins, closed]
  have left : s.focusLeft f = f := by
    simp [State.focusLeft, begins, State.holdEnds, State.forcedEndDue, watching]
  have judged : s.judgeDefect f = { s with dmn := { s.dmn with lowRun := 0 } } := by
    unfold State.judgeDefect
    rw [watching]
    dsimp only
    rw [begins, if_neg Bool.false_ne_true, if_neg bright]
  rw [State.dmnStage_judged found judged left (State.lossAdvances_dense fun closed => (lit closed).2) calm window unsaturated,
    if_neg unheld]

theorem State.lprReport_none (settled : s.focus.state ≠ .search) (open' : s.track.state ≠ .closing) :
    s.lprReport = .none := by
  rw [State.lprReport_settled settled, if_neg fun closing => open' closing.1]

theorem State.followSample_sums (follows : s.slc.state = .trackingFollow) (room : s.slc.followCount < 65535) :
    s.followSample .closed =
      { s with
        slc :=
          { s.slc with followSum := s.slc.followSum + s.track.drive, followCount := s.slc.followCount + 1 } } := by
  unfold State.followSample
  simp only [follows]
  exact if_pos room

theorem State.followSample_away {found : TrackState} (apart : found ≠ .closed)
    (still : found ≠ .opened ∨ s.slc.state ≠ .trackingFollow) : s.followSample found = s := by
  unfold State.followSample
  cases found <;> cases state : s.slc.state <;> simp_all

/-! ### In play -/

/-- The LPR stage with both loops CLOSED and the sled following: it computes, sums and reports nothing. -/
theorem State.stages_inPlay {x : SampleInputs} (still : s.Still) (calm : s.Calm x) (unmeasured : s.mve.phase ≠ .measure)
    (focus : s.focus.state = .closed) (track : s.track.state = .closed) (follows : s.slc.state = .trackingFollow)
    (room : s.slc.followCount < 65535) :
    let f := s.focus.compute s.prm (s.seen x).fe (s.seen x).az
    let r := s.track.compute s.prm (s.seen x).te (s.seen x).ax
    s.sampleEvent x =
      ({ s with
          dfe := s.seen x, focus := f, track := r
          slc :=
            { s.slc with followSum := s.slc.followSum + r.drive, followCount := s.slc.followCount + 1 } } : State).dmnStage
        { s with dfe := s.seen x, focus := f, track := r } := by
  intro f r
  have loops : ({ s with dfe := s.seen x } : State).loopStage = { s with dfe := s.seen x, focus := f, track := r } := by
    unfold State.loopStage
    rw [State.focusStage_closed ?_, State.trackStage_closed _ ?_]
    · exact track
    · exact focus
  have report : ({ s with dfe := s.seen x } : State).lprReport = .none :=
    State.lprReport_none (by show s.focus.state ≠ .search; rw [focus]; decide)
      (by show s.track.state ≠ .closing; rw [track]; decide)
  unfold State.sampleEvent State.lprStage
  dsimp only
  rw [State.frontStage_calm calm unmeasured, loops, report, track, State.followSample_sums ?_ ?_]
  · refine congrArg (fun t : State => t.dmnStage _) (still.idle ?_)
    exact ⟨rfl, rfl, rfl, rfl, rfl, ⟨rfl, rfl, rfl⟩, ⟨rfl, rfl, rfl⟩⟩
  · exact follows
  · exact room

theorem execServoSampleEvent_high (high : s.rstnLow = false) (x : SampleInputs) :
    exec (.servoSampleEvent x) s = .next (s.sampleEvent x) := by
  show execServoSampleEvent x s = _
  unfold execServoSampleEvent
  rw [high]
  rfl

theorem State.unsaturated (focus : s.focus.drive ≠ -2048 ∧ s.focus.drive ≠ 2047)
    (track : (s.track.drive ≠ -2048 ∧ s.track.drive ≠ 2047) ∨ (s.track.state ≠ .closed ∧ s.track.state ≠ .held)) :
    ¬s.saturated = true := by
  rw [State.saturated_iff]
  tauto

/-- Settles O12: the stages in play, and a DMN stage with nothing to judge. -/
theorem calmSampleInPlay : Obligations.CalmSampleInPlay := by
  intro x s v f r high still calm unmeasured focus track follows room watching bright dense _ f1 f2 r1 r2
  rw [execServoSampleEvent_high high, State.stages_inPlay still calm unmeasured focus track follows room,
    State.dmnStage_calm ?_ ?_ ?_ ?_ ?_ ?_]
  · exact watching
  · exact fun _ => ⟨bright, dense⟩
  · exact fun held => FocusState.noConfusion (focus.symm.trans held)
  · exact State.shockSample_calm calm rfl rfl rfl
  · exact calm.2.2.2
  · exact State.unsaturated ⟨f1, f2⟩ (.inl ⟨r1, r2⟩)

/-! ### Defects -/

theorem State.holdLoops_closed (focus : s.focus.state = .closed) (track : s.track.state = .closed) :
    s.holdLoops =
      { s with
        focus := { s.focus with state := .held }, track := { s.track with state := .held }
        dfe := { s.dfe with armed := .none } } := by
  unfold State.holdLoops State.holdFocus State.holdTrack
  rw [if_pos focus, if_pos ?_, State.setTrack_change ?_]
  · show TrackState.held ≠ s.track.state
    rw [track]
    decide
  · exact track

theorem State.releaseLoops_held (focus : s.focus.state = .held) (track : s.track.state = .held) :
    s.releaseLoops =
      { s with
        focus := { s.focus with state := .closed, resume := true }
        track := { s.track with state := .closed, resume := true }, dfe := { s.dfe with armed := .none } } := by
  unfold State.releaseLoops State.releaseFocus State.releaseTrack
  rw [if_pos focus, if_pos ?_, State.setTrack_change ?_]
  · show TrackState.closed ≠ s.track.state
    rw [track]
    decide
  · exact track

theorem State.dark_iff (s : State) : s.dark = true ↔ s.dfe.rfe < s.prm.defLevel := by
  simp [State.dark]

/-- A dark sample that completes the low run (R43, R44). -/
theorem State.holdBegins_closed (watching : s.dmn.defect = .watching) (dark : s.dfe.rfe < s.prm.defLevel)
    (low : s.prm.defOn ≤ s.dmn.lowRun + 1) : s.holdBegins .closed = true := by
  simp [State.holdBegins, watching, (s.dark_iff).mpr dark, low]

theorem State.judgeDefect_begins {f : FocusState} (begins : s.holdBegins f = true) :
    s.judgeDefect f = (({ s with dmn := s.dmn.runsCleared .holding } : State).bump .defect).holdLoops := by
  have watching : s.dmn.defect = .watching := by
    simp only [State.holdBegins, Bool.and_eq_true, decide_eq_true_eq] at begins
    exact begins.1.1.1
  unfold State.judgeDefect
  rw [watching]
  exact if_pos begins

/-- Settles O17: the stages in play, and the judgement that begins a hold. -/
theorem defectBeginsHold : Obligations.DefectBeginsHold := by
  intro x s v f r high still calm unmeasured focus track follows room watching dark low _ f1 f2 r1 r2
  rw [execServoSampleEvent_high high, State.stages_inPlay still calm unmeasured focus track follows room,
    State.dmnStage_judged (f := .closed) (g := .held) ?_ (State.judgeDefect_begins ?_) ?_ rfl ?_ ?_ ?_,
    State.bump_eq, State.holdLoops_closed ?_ ?_, State.bump_eq]
  · rfl
  · exact focus
  · exact track
  · exact focus
  · refine State.holdBegins_closed ?_ ?_ ?_
    · exact watching
    · exact dark
    · exact low
  · refine if_pos (State.holdBegins_closed ?_ ?_ ?_)
    · exact watching
    · exact dark
    · exact low
  · rw [State.bump_eq, State.holdLoops_closed ?_ ?_]
    · exact State.shockSample_calm calm rfl rfl rfl
    · exact focus
    · exact track
  · rw [State.bump_eq, State.holdLoops_closed ?_ ?_]
    · exact calm.2.2.2
    · exact focus
    · exact track
  · exact State.unsaturated ⟨f1, f2⟩ (.inl ⟨r1, r2⟩)

/-- A dark sample that brings the hold length to DEF_MAX (R45, R46). -/
theorem State.forcedEndDue_held (holding : s.dmn.defect = .holding) (dark : s.dfe.rfe < s.prm.defLevel)
    (long : s.prm.defMax ≤ s.dmn.holdLength + 1) (off : 1 ≤ s.prm.defOff) : s.forcedEndDue .held = true := by
  have run : s.goodRunNext = 0 := if_pos ((s.dark_iff).mpr dark)
  simp only [State.forcedEndDue, holding, run, decide_true, Bool.true_and, Bool.and_eq_true, decide_eq_true_eq]
  exact ⟨off, long⟩

theorem State.judgeDefect_forced {f : FocusState} (forced : s.forcedEndDue f = true) :
    s.holdBegins f = false ∧ s.holdEnds f = false ∧
      s.judgeDefect f =
        ((({ s with dmn := s.dmn.runsCleared .blocked } : State).releaseLoops.bump .longDefect).raiseBoth .defectLong) := by
  have due := forced
  simp only [State.forcedEndDue, Bool.and_eq_true, decide_eq_true_eq] at due
  obtain ⟨⟨⟨holding, held⟩, short⟩, long⟩ := due
  have begins : s.holdBegins f = false := by simp [State.holdBegins, holding]
  have ends : s.holdEnds f = false := by simp [State.holdEnds, short]
  refine ⟨begins, ends, ?_⟩
  unfold State.judgeDefect
  rw [holding]
  dsimp only
  rw [ends, if_neg Bool.false_ne_true, if_pos forced]

/-- Settles O18: a sample of two HELD loops computes nothing, and its DMN stage ends the hold. -/
theorem defectHoldEndsAtMaximum : Obligations.DefectHoldEndsAtMaximum := by
  intro x s v high still calm unmeasured focus track holding dark long off dense _ f1 f2 r1 r2
  have front : s.frontStage x = { s with dfe := v } := State.frontStage_calm calm unmeasured
  have loops : ({ s with dfe := v } : State).loopStage = { s with dfe := v } := by
    unfold State.loopStage
    rw [State.focusStage_resting (.inr ?_), State.trackStage_resting _ (.inr ?_)]
    · exact track
    · exact focus
  have lpr : ({ s with dfe := v } : State).lprStage = { s with dfe := v } := by
    unfold State.lprStage
    rw [loops, State.lprReport_none ?_ ?_, State.followSample_away ?_ ?_]
    · refine still.idle ?_
      exact ⟨rfl, rfl, rfl, rfl, rfl, ⟨rfl, rfl, rfl⟩, ⟨rfl, rfl, rfl⟩⟩
    · show s.track.state ≠ .closed
      rw [track]; decide
    · refine .inl ?_
      show s.track.state ≠ .opened
      rw [track]; decide
    · show s.focus.state ≠ .search
      rw [focus]; decide
    · show s.track.state ≠ .closing
      rw [track]; decide
  have forced : ({ s with dfe := v } : State).forcedEndDue .held = true :=
    State.forcedEndDue_held (s := { s with dfe := v }) holding dark long off
  obtain ⟨begins, -, judged⟩ := State.judgeDefect_forced forced
  have released := State.releaseLoops_held (s := { s with dfe := v, dmn := s.dmn.runsCleared .blocked }) focus track
  rw [released] at judged
  refine ⟨s.sampleEvent x, ?_, execServoSampleEvent_high high x, ?_⟩
  · show execDefectForcedEnd x s = _
    have due : (s.frontStage x).lprStage.forcedEndDue (s.frontStage x).loopStage.focus.state = true := by
      rw [front, lpr, loops, ← forced, ← focus]
    exact congrArg Host.Outcome.next (if_pos ⟨high, due⟩)
  · unfold State.sampleEvent
    dsimp only
    rw [front, lpr, loops, State.dmnStage_judged (f := .held) (g := .closed) ?_ judged ?_
      (State.lossAdvances_dense ?_) ?_ ?_ ?_, State.bump_eq, State.bump_eq]
    · rfl
    · exact focus
    · simp [State.focusLeft, begins, forced]
    · intro _
      rw [State.bump_eq]
      exact dense
    · rw [State.bump_eq]
      exact State.shockSample_calm calm rfl rfl rfl
    · rw [State.bump_eq]
      exact calm.2.2.2
    · exact State.unsaturated ⟨f1, f2⟩ (.inl ⟨r1, r2⟩)

end Sys2Proof.Machine
end

section
/-!
PROOFS. The focus search of START in whole samples: the pull-in and the failed search (chapters 2, 6 and 8).
-/

namespace Sys2Proof.Machine

variable {s : State}

theorem State.onPulledIn_search {m : ActiveMove} (active : s.mve.active = some m) (phase : s.mve.phase = .search) :
    s.onPulledIn = s.startSpinUp := by
  unfold State.onPulledIn
  simp only [active, phase]

theorem State.onSearchFailed_search {m : ActiveMove} (active : s.mve.active = some m) (phase : s.mve.phase = .search) :
    s.onSearchFailed = s.fault .focusFail := by
  unfold State.onSearchFailed
  simp only [active, phase]

theorem State.accelerateOrder_taken (permit : s.spc.permit = true)
    (resting : s.spc.state = .stopped ∨ s.spc.state = .rundown ∨ s.spc.state = .coast ∨ s.spc.state = .braking) :
    s.accelerateOrder = { s with spc := s.spc.accelerate } := by
  unfold State.accelerateOrder
  rw [if_pos permit]
  rcases resting with state | state | state | state <;> rw [state]

theorem State.startSpinUp_resting (permit : s.spc.permit = true)
    (resting : s.spc.state = .stopped ∨ s.spc.state = .rundown ∨ s.spc.state = .coast ∨ s.spc.state = .braking) :
    s.startSpinUp = { s with mve := { s.mve with phase := .spinUp }, spc := s.spc.accelerate } := by
  have unlocked : ¬s.spc.state = .locked := by rcases resting with state | state | state | state <;> simp [state]
  unfold State.startSpinUp
  dsimp only
  rw [if_pos permit, if_neg unlocked, State.accelerateOrder_taken ?_ ?_]
  · exact permit
  · exact resting

/-- A search sample with tracking OPEN and the sled not following: the loops, and what follows them. -/
theorem State.sampleEvent_search {x : SampleInputs} {u : State} (calm : s.Calm x) (phase : s.mve.phase = .search)
    (opened : u.track.state = .opened) (track : s.track.state = .opened) (sled : u.slc.state ≠ .trackingFollow)
    (stage : ({ s with dfe := s.seen x } : State).focusStage = u) :
    s.sampleEvent x = (u.takeReport ({ s with dfe := s.seen x } : State).lprReport).arbitrate.dmnStage u := by
  have loops : ({ s with dfe := s.seen x } : State).loopStage = u := by
    unfold State.loopStage
    rw [stage, State.trackStage_resting _ (.inl opened)]
  unfold State.sampleEvent State.lprStage
  dsimp only
  rw [State.frontStage_calm calm (by rw [phase]; decide), loops, track,
    State.followSample_away (by decide) (.inr sled)]

/-- Settles O15: the pull-in, the spin-up that it starts, and a DMN stage with nothing to judge. -/
theorem pullInStartsSpinUp : Obligations.PullInStartsSpinUp := by
  intro x s m q v high calm active phase searching previous turned dense track sled permit resting watching bright full _ f1
    f2
  have pulls : ({ s with dfe := v } : State).focus.pullsIn s.prm v.sum v.fe = true :=
    (FocusLoop.pullsIn_iff _ _ _ _).mpr ⟨dense, q, previous, turned⟩
  obtain ⟨report, stage⟩ := State.search_pullsIn (s := { s with dfe := v }) searching pulls
  rw [execServoSampleEvent_high high, State.sampleEvent_search calm phase ?_ track ?_ stage, report, State.takeReport,
    State.onPulledIn_search (m := m) ?_ ?_, State.startSpinUp_resting ?_ ?_,
    State.arbitrate_busy (State.pickupFree_active (m := m) ?_), State.dmnStage_calm ?_ ?_ ?_ ?_ ?_ ?_]
  · rfl
  · exact watching
  · exact fun _ => ⟨bright, full⟩
  · exact fun held => nomatch held
  · exact State.shockSample_calm calm rfl rfl rfl
  · exact calm.2.2.2
  · refine State.unsaturated ⟨f1, f2⟩ (.inr ?_)
    show s.track.state ≠ .closed ∧ s.track.state ≠ .held
    rw [track]
    decide
  · exact active
  · exact permit
  · exact resting
  · exact active
  · exact phase
  · exact track
  · exact sled

/-- An order to the tracking loop leaves the accelerations (R15). -/
theorem Dfe.ordered_accel (v : Dfe) (before after : TrackState) :
    (v.ordered before after).ax = v.ax ∧ (v.ordered before after).az = v.az := by
  unfold Dfe.ordered
  split <;> exact ⟨rfl, rfl⟩

/-- Settles O16: the last sweep's end, the fault stop in one record, and a DMN stage that finds the loops OPEN. -/
theorem searchFailureFaultsStart : Obligations.SearchFailureFaultsStart := by
  intro x s m v high calm lone kind phase starting clear unmarked room searching track sled falling low dim tries watching _
  have alone := lone.lone
  obtain ⟨active, port, -⟩ := lone
  have dull : ¬({ s with dfe := v } : State).focus.pullsIn s.prm v.sum v.fe = true := fun pulls =>
    absurd ((FocusLoop.pullsIn_iff _ _ _ _).mp pulls).1 (by simpa using dim)
  have fails : ({ s with dfe := v } : State).focus.searchFails s.prm = true := by
    refine (FocusLoop.searchFails_iff _ _).mpr ⟨?_, tries⟩
    show (rampStep s.focus.ramp _ _ _).1 = _
    rw [falling]
    exact max_eq_right low
  obtain ⟨report, stage⟩ := State.search_fails (s := { s with dfe := v }) searching dull fails
  rw [State.focusOpen_eq] at stage
  have front : s.frontStage x = { s with dfe := v } := State.frontStage_calm calm (by rw [phase]; decide)
  have failed : (s.frontStage x).lprReport = .searchFailed := by rw [front, report]
  refine ⟨s.sampleEvent x, congrArg Host.Outcome.next (if_pos ⟨high, failed⟩), execServoSampleEvent_high high x, ?_⟩
  rw [State.sampleEvent_search calm phase ?_ track ?_ stage, report, State.takeReport,
    State.onSearchFailed_search (m := m) ?_ ?_, Arb.Lone.faults (m := m) ?_ ?_ ?_ ?_ ?_ ?_,
    State.dmnStage_calm ?_ ?_ ?_ ?_ ?_ ?_]
  · refine ⟨?_, rfl, rfl, rfl, rfl, ?_, rfl, rfl, Pru.dropped_anchor _, ?_, ?_, rfl⟩
    · rw [State.brakeOrder_eq, State.sledStop_eq, ← unmarked]
      rfl
    · unfold State.faulted State.faultRecord
      simp only [active, Option.map_some, port, kind, starting]
    · unfold State.loneResult State.faulted
      simp only [Pru.dropped_anchor, Pru.dropped_trackIndex, kind]
      rfl
    · unfold State.faulted Pif.unmarked
      simp only [unmarked]
      rfl
  · exact watching
  · exact fun closed => nomatch closed
  · exact fun held => nomatch held
  · refine State.shockSample_calm calm rfl ?_ ?_ <;> simp only [State.faulted, Dfe.ordered_accel] <;> rfl
  · exact calm.2.2.2
  · rw [State.saturated_iff]
    simp [FocusLoop.emptied, TrackLoop.emptied]
  · exact alone
  · exact active
  · show s.dsv.drive ≠ .faulted
    rw [starting]; decide
  · show s.dsv.drive ≠ .powerHold
    rw [starting]; decide
  · exact clear
  · exact room
  · exact active
  · exact phase
  · rfl
  · exact sled

end Sys2Proof.Machine
end

section
/-!
PROOFS. Crossing events: the track index, the slip, and the crossings that a move or a holding jump counts (chapters 3, 5
and 6).
-/

namespace Sys2Proof.Machine

variable {s : State}

/-! ### Crossings at the Move Engine -/

/-- A step of the index changes the position record and the spindle alone (R63, R83, R84). -/
theorem State.moveIndex_changes (s : State) (d : Int) : ∃ P C, s.moveIndex d = { s with pru := P, spc := C } :=
  ⟨(s.moveIndex d).pru, (s.moveIndex d).spc, State.eq_iff.mpr (by simp)⟩

theorem State.mveCrossing_idle (phase : s.mve.phase = .none) (jump : s.mve.holdJump ≠ .jumping) : s.mveCrossing = s := by
  unfold State.mveCrossing
  simp only [phase]
  exact if_neg jump

theorem State.mveCrossing_hold (phase : s.mve.phase = .none) (jump : s.mve.holdJump = .jumping) :
    s.mveCrossing = s.closeHoldJump := by
  unfold State.mveCrossing
  simp only [phase]
  exact if_pos jump

theorem State.mveCrossing_jump (phase : s.mve.phase = .jump) :
    s.mveCrossing =
      let k := s.mve.crossings + 1
      if k = s.mve.jumpSize then
        ({ s with mve := { s.mve with crossings := k, jumpTimer := s.mve.jumpTimer.stop } } : State).startClosePhase
      else if 1 < s.mve.jumpSize ∧ k = (s.mve.jumpSize + 1) / 2 then
        ({ s with mve := { s.mve with crossings := k } } : State).brakeCommand
      else { s with mve := { s.mve with crossings := k } } := by
  unfold State.mveCrossing
  simp only [phase]

theorem State.mveCrossing_coarse (phase : s.mve.phase = .coarse) :
    s.mveCrossing =
      let k := s.mve.crossings + 1
      if k = s.mve.coarseGoal then
        ({ s with mve := { s.mve with crossings := k, seekTimer := s.mve.seekTimer.stop } } : State).sledStop.startJumpPhase
          64 s.mve.jumpDir
      else { s with mve := { s.mve with crossings := k } } := by
  unfold State.mveCrossing
  simp only [phase]
  rfl

theorem State.brakeCommand_kick (jumping : s.track.state = .jumping) (kick : s.track.kick = .kick) :
    s.brakeCommand =
      { s with
        track :=
          { s.track with
            kick := .brake
            drive := -(match s.track.jumpDir with | .outward => (s.prm.kick : Int) | .inward => -(s.prm.kick : Int)) } } := by
  unfold State.brakeCommand
  rw [if_pos ⟨jumping, kick⟩]
  cases dir : s.track.jumpDir <;> simp [kickDrive, Dir.step]

theorem State.startJumpPhase_taken (lens : s.lensTaken = true) (n : Nat) (d : Dir) :
    s.startJumpPhase n d =
      { s with
        track := s.track.kicked s.prm.kick d, dfe := s.dfe.ordered s.track.state .jumping
        mve :=
          { s.mve with
            phase := .jump, jumpSize := n, jumpDir := d, crossings := 0, jumpTimer := .started, settling := false } } := by
  unfold State.startJumpPhase
  dsimp only
  rw [if_pos lens, State.jumpCommand_taken ?_]
  exact lens

/-! ### Slips -/

/-- A slip below a burst (R52, R53). -/
theorem State.slip_single (anchored : s.pru.anchor.isSome = true) (below : s.dmn.slips + 1 < s.prm.slipBurst) :
    s.slip =
      { s with
        pru := { s.pru with anchor := none, run := 0 }, arb := { s.arb with mark := none }
        dmn := { s.dmn with slips := s.dmn.slips + 1 }, ctb := { s.ctb with slip := s.ctb.slip + 1 }
        pifP := ((s.pifP.judgedAt .slip (s.ctb.slip + 1)).told .slip).unmarked s.arb.mark
        pifD := (s.pifD.judgedAt .slip (s.ctb.slip + 1)).told .slip } := by
  unfold State.slip
  dsimp only
  rw [if_neg (Nat.not_le.mpr below), State.bump_eq, State.raiseBoth_eq, State.dropAnchor_anchored ?_, State.clearMark_told]
  · rfl
  · exact anchored

theorem Pif.unmarked_flag {v : Pif} {mark : Option Mark} (marked : mark.isSome = true) :
    (v.unmarked mark).flags.getLsbD 8 = true := by
  unfold Pif.unmarked
  rw [if_pos marked]
  exact Pif.told_flag v .markLost

/-! ### The statement -/

/-- A crossing of an anchored record with no move and no holding jump, outside a slip and as one (R16, R52, R84). -/
theorem State.crossing_anchored {a : Anchor} {e : Nat} {d : Dir} (c : TrackState)
    (phase : s.mve.phase = .none) (jump : s.mve.holdJump = .none) (anchor : s.pru.anchor = some a)
    (low : -2048 ≤ s.pru.trackIndex + d.step) (high : s.pru.trackIndex + d.step ≤ 21999)
    (start : s.pru.zones.startBlock (s.pru.trackIndex + d.step) = some e) :
    s.crossing d c =
      let t : State :=
        { s with
          pru := { s.pru with trackIndex := s.pru.trackIndex + d.step, anchor := some { a with estimated := e } }
          spc := { s.spc with target := targetPeriod (s.pru.trackIndex + d.step) s.prm.sf s.prm.kclv } }
      (if c = .closed then t.slip else t).arbitrate := by
  have moves : d.step ≠ 0 := by cases d <;> decide
  unfold State.crossing
  dsimp only
  rw [State.moveIndex_anchored anchor moves low high start, State.mveCrossing_idle ?_ ?_]
  · exact phase
  · show s.mve.holdJump ≠ .jumping
    rw [jump]
    decide

/-- Settles O20: the step with its slip, and the crossings by the phase that counts them. -/
theorem crossingStepsIndexAndSlips : Obligations.CrossingStepsIndexAndSlips := by
  intro s d c step n t
  have stepOf : step = d.step := by cases d <;> rfl
  refine ⟨fun nothing phase jump anchored low high held below => ?_, fun other => ?_⟩
  · obtain ⟨a, anchor⟩ := Option.isSome_iff_exists.mp anchored
    obtain ⟨e, start⟩ := Option.ne_none_iff_exists'.mp held
    have run := State.crossing_anchored (d := d) c phase jump anchor (by rw [← stepOf]; exact low)
      (by rw [← stepOf]; exact high) (by rw [← stepOf]; exact start)
    rw [← stepOf] at run
    by_cases closed : c = .closed
    · have event := run
      dsimp only at event
      rw [if_pos closed, State.slip_single rfl ?_, State.NothingWaits.arbitrate ?_] at event
      · rw [show t = _ from event]
        refine ⟨rfl, rfl, fun differs => absurd closed differs, fun _ => ⟨rfl, fun p => ?_, fun marked => ?_⟩⟩
        · cases p with
          | portP => exact Pif.unmarked_keeps _ (Pif.told_flag _ .slip)
          | portD => exact Pif.told_flag _ .slip
        · exact Pif.unmarked_flag marked
      · exact nothing
      · exact below
    · have event := run
      dsimp only at event
      rw [if_neg closed, State.NothingWaits.arbitrate ?_] at event
      · rw [show t = _ from event]
        refine ⟨rfl, rfl, fun _ => ⟨rfl, rfl, ?_⟩, fun isClosed => absurd isClosed closed⟩
        rw [anchor, start]
        rfl
      · exact nothing
  · have run : t = (s.moveIndex step).mveCrossing.arbitrate := by
      rw [stepOf]
      exact congrArg State.arbitrate (if_neg other)
    obtain ⟨P, C, moved⟩ := s.moveIndex_changes step
    rw [moved] at run
    dsimp only
    rw [run, moved]
    refine ⟨fun active phase jumping => ⟨fun reached lens => ?_, fun short half kick => ?_, fun short full => ?_⟩,
      fun active phase opened => ⟨fun reached lens => ?_, fun short => ?_⟩, fun phase jump jumping lens => ?_⟩
    · obtain ⟨m, active⟩ := Option.isSome_iff_exists.mp active
      rw [State.mveCrossing_jump ?_]
      · dsimp only
        rw [if_pos reached, State.startClosePhase_taken ?_ ?_, State.arbitrate_busy (State.pickupFree_active (m := m) ?_)]
        · rfl
        · exact active
        · exact lens
        · show s.track.state ≠ .closing
          rw [jumping]
          decide
      · exact phase
    · obtain ⟨m, active⟩ := Option.isSome_iff_exists.mp active
      rw [State.mveCrossing_jump ?_]
      · dsimp only
        rewrite [if_neg short, if_pos half, State.brakeCommand_kick ?_ ?_,
          State.arbitrate_busy (State.pickupFree_active (m := m) ?_)]
        · rfl
        · exact active
        · exact jumping
        · exact kick
      · exact phase
    · obtain ⟨m, active⟩ := Option.isSome_iff_exists.mp active
      rw [State.mveCrossing_jump ?_]
      · dsimp only
        rw [if_neg short, if_neg full, State.arbitrate_busy (State.pickupFree_active (m := m) ?_)]
        exact active
      · exact phase
    · obtain ⟨m, active⟩ := Option.isSome_iff_exists.mp active
      rw [State.mveCrossing_coarse ?_]
      · dsimp only
        rw [if_pos reached, State.sledStop_eq, State.startJumpPhase_taken ?_, Dfe.ordered_change ?_, TrackLoop.kicked_eq,
          State.arbitrate_busy (State.pickupFree_active (m := m) ?_), State.sledStop_eq]
        · rfl
        · exact active
        · show TrackState.jumping ≠ s.track.state
          rw [opened]
          decide
        · exact lens
      · exact phase
    · obtain ⟨m, active⟩ := Option.isSome_iff_exists.mp active
      rw [State.mveCrossing_coarse ?_]
      · dsimp only
        rw [if_neg short, State.arbitrate_busy (State.pickupFree_active (m := m) ?_)]
        exact active
      · exact phase
    · rw [State.mveCrossing_hold ?_ ?_, State.closeHoldJump_taken ?_, Dfe.ordered_change ?_,
        State.arbitrate_busy (State.pickupFree_holdJump ?_)]
      · rfl
      · exact fun none => nomatch none
      · show TrackState.closing ≠ s.track.state
        rw [jumping]
        decide
      · exact lens
      · exact phase
      · exact jump

end Sys2Proof.Machine
end

section
/-!
PROOFS. Deck reports: the clamp and the permit, the quiet path and the emergency (chapters 4 and 8).
-/

namespace Sys2Proof.Machine

variable {s : State}

/-! ### The request -/

theorem Clamp.ofCode_none {n : Nat} (outside : 3 ≤ n) : Clamp.ofCode n = none := by
  unfold Clamp.ofCode
  split <;> first | rfl | omega

theorem ownDeckReport_refused {w : Word} (outside : 3 ≤ w.toNat) :
    ownDeckReport .portD [w] s = (s, { status := .badValue, payload := [] }) := by
  have none : Clamp.ofCode (wordAt [w] 0).toNat = none := Clamp.ofCode_none outside
  unfold ownDeckReport
  rw [none]
  rfl

theorem ownDeckReport_clamped :
    ownDeckReport .portD [0] s =
      (({ s with pifP := s.pifP.told .deck } : State).deckClamped, { status := .ok, payload := [] }) := rfl

theorem ownDeckReport_unclamped {w : Word} {c : Clamp} (code : Clamp.ofCode w.toNat = some c) (other : c ≠ .clamped) :
    ownDeckReport .portD [w] s =
      (({ s with pifP := s.pifP.told .deck } : State).deckUnclamped c, { status := .ok, payload := [] }) := by
  have known : Clamp.ofCode (wordAt [w] 0).toNat = some c := code
  unfold ownDeckReport
  rw [known]
  cases c with
  | clamped => exact absurd rfl other
  | unclamped => rfl
  | loading => rfl

/-! ### CLAMPED -/

theorem State.deckClamped_again (clamped : s.dsv.clamp = .clamped) : s.deckClamped = s := if_pos clamped

theorem State.deckClamped_first (other : s.dsv.clamp ≠ .clamped) :
    s.deckClamped =
      let t : State :=
        { s with
          dsv := { s.dsv with clamp := .clamped }
          spc := { s.spc with permit := if s.dsv.lowv then s.spc.permit else true } }
      if s.dsv.drive = .noDisc then t.setDrive .idle else t := by
  have permit : (if (Clamp.clamped = .clamped ∧ s.dsv.lowv = false) then true else s.spc.permit) =
      if s.dsv.lowv = true then s.spc.permit else true := by
    cases s.dsv.lowv <;> simp
  unfold State.deckClamped
  dsimp only
  rw [if_neg other, State.grantPermit_eq]
  dsimp only
  rw [permit]

/-! ### UNCLAMPED and LOADING -/

theorem State.withdrawGranted_eq (s : State) :
    s.withdrawGranted = { s with spc := if s.spc.permit then s.spc.cut else s.spc } := by
  unfold State.withdrawGranted
  split
  case isTrue => exact s.withdrawPermit_eq
  case isFalse => rfl

theorem Spc.cut_stopped {c : Spc} (stopped : c.state = .stopped) :
    c.cut = { c with permit := false, duty := 0, pwm := { last := 0, out := 0 } } := by
  have state : ({ c with permit := false, duty := 0, pwm := Pwm.cut } : Spc).state = .stopped := stopped
  unfold Spc.cut Spc.coasted
  rw [state]
  rfl

theorem Spc.cut_locked {c : Spc} (locked : c.state = .locked) :
    c.cut =
      { c with
        state := .coast, permit := false, duty := 0, dir := .fwd, inRun := 0, outRun := 0
        spinTimer := { c.spinTimer with running := false }, pwm := { last := 0, out := 0 } } := by
  have state : ({ c with permit := false, duty := 0, pwm := Pwm.cut } : Spc).state = .locked := locked
  unfold Spc.cut Spc.coasted
  rw [state]
  rfl

/-- The state of a report of UNCLAMPED or LOADING once the clamp is set and the permit withdrawn (R159). -/
def State.unclamped (s : State) (c : Clamp) : State :=
  { s with dsv := { s.dsv with clamp := c }, spc := if s.spc.permit then s.spc.cut else s.spc }

theorem State.deckUnclamped_none {c : Clamp} (action : s.unclampAction = .none) (unanchored : s.pru.anchor = none)
    (unmarked : s.arb.mark = none) : s.deckUnclamped c = s.unclamped c := by
  have bare : (s.unclamped c).dropAnchor.clearMark true = s.unclamped c := by
    rw [State.dropAnchor_unanchored (s := s.unclamped c) unanchored]
    unfold State.clearMark
    rw [show (s.unclamped c).arb.mark = none from unmarked]
  unfold State.deckUnclamped
  rewrite [State.withdrawGranted_eq, action]
  exact bare

theorem State.deckUnclamped_quiet {c : Clamp} (action : s.unclampAction = .quiet) :
    s.deckUnclamped c = (s.unclamped c).quietUnclamp := by
  unfold State.deckUnclamped
  rewrite [State.withdrawGranted_eq, action]
  rfl

theorem State.deckUnclamped_emergency {c : Clamp} (action : s.unclampAction = .emergency) :
    s.deckUnclamped c = (s.unclamped c).unclampEmergency := by
  unfold State.deckUnclamped
  rewrite [State.withdrawGranted_eq, action]
  rfl

theorem State.unclampAction_quiet (drive : s.dsv.drive = .idle ∨ s.dsv.drive = .stopping) (stopped : s.spc.state = .stopped)
    (dark : s.dsv.laser = false) : s.unclampAction = .quiet := by
  unfold State.unclampAction
  rcases drive with drive | drive <;> rw [drive] <;> exact if_pos ⟨stopped, dark⟩

/-- The quiet path up to the end of the move, with no anchor and no mark to take away (R159). -/
theorem State.quietUnclamp_eq (drive : s.dsv.drive = .idle ∨ s.dsv.drive = .stopping) (unanchored : s.pru.anchor = none)
    (unmarked : s.arb.mark = none) :
    s.quietUnclamp =
      ((({ s with
            slc := s.slc.halted, mve := s.endWork.mve, dsv := { s.dsv with drive := .noDisc } } : State).raiseBoth
          .driveState).finishMove s.mve.active .discReleased none).arbitrate := by
  unfold State.quietUnclamp
  rw [State.sledStop_eq, State.setDrive_plain ?_ ?_ ?_ ?_]
  · rfl
  · show DriveState.noDisc ≠ s.dsv.drive
    rcases drive with drive | drive <;> simp [drive]
  · exact unanchored
  · exact unmarked
  · show s.dsv.drive ≠ .holding
    rcases drive with drive | drive <;> simp [drive]

/-- The emergency in one record, with no move active and nothing waiting (R160). -/
theorem State.unclampEmergency_free (tracking : s.dsv.drive = .tracking) (clear : s.dsv.record = none)
    (free : s.mve.active = none) (nothing : s.NothingWaits) :
    s.unclampEmergency = { s.faulted .unclampSpinning with spc := s.spc } := by
  unfold State.unclampEmergency
  dsimp only
  rw [State.latchFault_eq clear, State.focusOpen_eq, State.sledStop_eq, State.setDrive_unsettled ?_ rfl, free,
    State.NothingWaits.arbitrate ?_]
  · exact State.eq_iff.mpr ⟨rfl, rfl, rfl, rfl, rfl, rfl, rfl, rfl, rfl, rfl, rfl, s.endWork_left _, rfl, rfl, rfl, rfl,
      rfl, rfl⟩
  · exact nothing
  · show DriveState.faulted ≠ s.dsv.drive
    rw [tracking]
    decide

/-- Settles O59: the code, the clamp, and the three actions of an unclamp. -/
theorem deckReportActs : Obligations.DeckReportActs := by
  intro f w s listens carries _
  have answered : ∀ {u : State} {r : Response}, ownDeckReport .portD [w] s = (u, r) →
      exec (.deckReport .portD f) s = .next (u.respond .portD r) :=
    fun owner => congrArg Host.Outcome.next (State.takeRequest_ofD listens carries rfl owner)
  refine ⟨fun outside => answered (ownDeckReport_refused outside), fun zero clamped => ?_,
    fun zero other noDisc supplied unanchored unmarked => ?_, fun zero other disc => ?_,
    fun c code other unanchored unmarked => ⟨fun noDisc withdrawn => ?_, fun faulted stopped permit => ?_,
      fun idle stopped dark permit free nothing => ?_, fun m stopping stopped dark permit lone kind phase room => ?_⟩,
    fun c code other tracking locked permit clear free nothing => ?_⟩
  · subst zero
    rw [answered ownDeckReport_clamped, State.deckClamped_again ?_]
    · rfl
    · exact clamped
  · subst zero
    rw [answered ownDeckReport_clamped, State.deckClamped_first ?_]
    · dsimp only
      rw [if_pos noDisc, State.setDrive_plain ?_ ?_ ?_ ?_, supplied]
      · rfl
      · show DriveState.idle ≠ s.dsv.drive
        rw [noDisc]; decide
      · exact unanchored
      · exact unmarked
      · show s.dsv.drive ≠ .holding
        rw [noDisc]; decide
    · exact other
  · subst zero
    rw [answered ownDeckReport_clamped, State.deckClamped_first ?_]
    · dsimp only
      rw [if_neg disc]
      rfl
    · exact other
  · have action : ({ s with pifP := s.pifP.told .deck } : State).unclampAction = .none := by
      unfold State.unclampAction
      simp only [noDisc]
    rw [answered (ownDeckReport_unclamped code other), State.deckUnclamped_none action unanchored unmarked,
      State.unclamped]
    dsimp only
    rewrite [withdrawn]
    rfl
  · have action : ({ s with pifP := s.pifP.told .deck } : State).unclampAction = .none := by
      unfold State.unclampAction
      simp only [faulted, stopped, if_true]
    rw [answered (ownDeckReport_unclamped code other), State.deckUnclamped_none action unanchored unmarked,
      State.unclamped]
    dsimp only
    rewrite [permit, Spc.cut_stopped stopped]
    rfl
  · have action := State.unclampAction_quiet (s := { s with pifP := s.pifP.told .deck }) (.inl idle) stopped dark
    rw [answered (ownDeckReport_unclamped code other), State.deckUnclamped_quiet action, State.unclamped]
    dsimp only
    rw [permit, State.quietUnclamp_eq (.inl ?_) ?_ ?_, free, State.NothingWaits.arbitrate ?_, Spc.cut_stopped stopped,
      State.sledStop_eq]
    · rfl
    · exact nothing
    · exact idle
    · exact unanchored
    · exact unmarked
  · have action := State.unclampAction_quiet (s := { s with pifP := s.pifP.told .deck }) (.inr stopping) stopped dark
    have alone := lone.lone
    obtain ⟨active, -⟩ := lone
    have run := answered (ownDeckReport_unclamped code other)
    rw [State.deckUnclamped_quiet action, State.unclamped] at run
    dsimp only at run
    rw [permit, State.quietUnclamp_eq (.inr ?_) ?_ ?_, active, Arb.Lone.finishMove ?_ ?_, alone.arbitrate (claim := .none) ?_,
      Spc.cut_stopped ?_] at run
    · refine ⟨_, run, ?_, rfl, rfl, rfl⟩
      rw [State.sledStop_eq]
      rfl
    · exact stopped
    · rfl
    · exact alone
    · exact room
    · exact stopping
    · exact unanchored
    · exact unmarked
  · have action : ({ s with pifP := s.pifP.told .deck } : State).unclampAction = .emergency := by
      unfold State.unclampAction
      simp only [tracking]
    have run := answered (ownDeckReport_unclamped code other)
    rw [State.deckUnclamped_emergency action, State.unclamped] at run
    dsimp only at run
    rw [permit, State.unclampEmergency_free ?_ ?_ ?_ ?_, Spc.cut_locked locked] at run
    · refine ⟨_, run, ?_, rfl, rfl, rfl, Pru.dropped_anchor _, rfl, rfl, rfl, ?_, rfl, ?_⟩
      · rw [State.sledStop_eq]
        rfl
      · unfold State.faulted State.faultRecord
        simp only [free, Option.map_none, tracking]
        rfl
      · exact ⟨Pif.unmarked_keeps _ (Pif.told_keeps _ (Pif.told_keeps _ (Pif.told_flag _ .deck))),
          (State.faulted_flags _ .unclampSpinning .portP).1,
          (State.faulted_flags _ .unclampSpinning .portP).2⟩
    · exact tracking
    · exact clear
    · exact free
    · exact nothing

end Sys2Proof.Machine
end

section
/-!
PROOFS. Address reports: the five tests, the acceptance, and what a seek in its address wait makes of one (chapters 5 and 6).
-/

namespace Sys2Proof.Machine

variable {s : State}

/-! ### The request -/

theorem ownAddressReport_refused {h l q : Word} (outside : 2 ≤ q.toNat) :
    ownAddressReport .portP [h, l, q] s = (s, { status := .badValue, payload := [] }) := by
  have none : qualityOfCode (wordAt [h, l, q] 2).toNat = none := by
    show qualityOfCode q.toNat = none
    unfold qualityOfCode
    split <;> first | rfl | omega
  unfold ownAddressReport
  rewrite [none]
  rfl

theorem ownAddressReport_known {h l q : Word} {good : Bool} {u : State} {n : Nat}
    (quality : qualityOfCode q.toNat = some good)
    (test : s.reportTest good (min (DWord.ofWords h l).toNat 449999) = n)
    (judged : s.judgeReport good (min (DWord.ofWords h l).toNat 449999) = u) :
    ownAddressReport .portP [h, l, q] s =
      (s.handleReport good (min (DWord.ofWords h l).toNat 449999),
        { status := if 449999 < (DWord.ofWords h l).toNat then .clamped else .ok
          payload :=
            [wordOf n, wordOf u.pru.trackIndex, bytesWord u.pru.run (if u.pru.anchor.isSome then 1 else 0)] }) := by
  have known : qualityOfCode (wordAt [h, l, q] 2).toNat = some good := quality
  unfold ownAddressReport
  rewrite [known, ← blockStatus_eq, ← test, ← judged]
  rfl

theorem State.handleReport_plain {good : Bool} {b : Nat} {u : State} (judged : s.judgeReport good b = u)
    (settled : u.arbitrate = u) (passes : s.inAddressWait = true → u.seekReport good b = u) :
    s.handleReport good b = u := by
  unfold State.handleReport
  rewrite [judged]
  split
  case isTrue waits => rw [passes waits, settled]
  case isFalse => exact settled

theorem State.inAddressWait_false (phase : s.mve.phase ≠ .addressWait) : s.inAddressWait = false := by
  simp [State.inAddressWait, phase]

/-! ### The five tests -/

theorem State.reportDrive_iff (phase : s.mve.phase ≠ .addressWait) :
    s.reportDrive = true ↔ s.dsv.drive = .tracking ∨ s.dsv.drive = .holding := by
  unfold State.reportDrive
  cases s.dsv.drive <;> simp [State.inAddressWait_false phase]

theorem State.reportTest_idle {b : Nat} (idle : ¬s.reportDrive = true) : s.reportTest true b = 2 := by
  simp [State.reportTest, idle]

theorem ZoneTable.inRange_false {z : ZoneTable} {b : Nat} (outside : b < z.firstBlock ∨ z.endBlock < b) :
    z.inRange b = false := by
  rw [← Bool.not_eq_true, ZoneTable.inRange_iff]
  omega

section
variable {b : Nat} (drives : s.reportDrive = true)
include drives

theorem State.reportTest_undriven (unclosed : s.track.state ≠ .closed) : s.reportTest true b = 3 := by
  simp [State.reportTest, drives, unclosed]

theorem State.reportTest_outside (closed : s.track.state = .closed) (outside : s.pru.zones.inRange b = false) :
    s.reportTest true b = 4 := by
  simp [State.reportTest, drives, closed, outside]

theorem State.reportTest_disagrees (closed : s.track.state = .closed) (inside : s.pru.zones.inRange b = true)
    (disagrees : s.agrees b = false) : s.reportTest true b = 5 := by
  simp [State.reportTest, drives, closed, inside, disagrees]

theorem State.reportTest_accepted (closed : s.track.state = .closed) (inside : s.pru.zones.inRange b = true)
    (agrees : s.agrees b = true) : s.reportTest true b = 0 := by
  simp [State.reportTest, drives, closed, inside, agrees]

end

theorem ZoneTable.inRange_of_trackOf {z : ZoneTable} {b : Nat} {n : Int} (track : z.trackOf b = some n) :
    z.inRange b = true := by
  unfold ZoneTable.trackOf at track
  split at track
  case isTrue inside => exact inside
  case isFalse => cases track

theorem State.agrees_none (b : Nat) (unanchored : s.pru.anchor = none) : s.agrees b = true := by
  simp [State.agrees, unanchored]

theorem State.agrees_some {b : Nat} {a : Anchor} {n : Int} (anchor : s.pru.anchor = some a)
    (track : s.pru.zones.trackOf b = some n) :
    s.agrees b = decide ((n - s.pru.trackIndex).natAbs ≤ s.prm.anchorTol) := by
  simp [State.agrees, anchor, track]

/-! ### Acceptance and rejection -/

/-- The record anchored by a report of block `b` on track `n` with start block `e` (R96). -/
def State.recorded (s : State) (b : Nat) (n : Int) (e : Nat) : State :=
  { s with
    pru := { s.pru with trackIndex := n, anchor := some { block := b, estimated := e }, revs := 0, run := 0 }
    spc :=
      { s.spc with target := if n = s.pru.trackIndex then s.spc.target else targetPeriod n s.prm.sf s.prm.kclv } }

/-- The track index set: the record's index, and otherwise its anchor and run at most, with the target period. -/
theorem State.setIndex_record (s : State) (n : Int) :
    ∃ a r, s.setIndex n =
      { s with
        pru := { s.pru with trackIndex := n, anchor := a, run := r }
        spc :=
          { s.spc with
            target := if n = s.pru.trackIndex then s.spc.target else targetPeriod n s.prm.sf s.prm.kclv } } := by
  by_cases same : n = s.pru.trackIndex
  · refine ⟨s.pru.anchor, s.pru.run, ?_⟩
    unfold State.setIndex
    rw [if_pos same, if_pos same, same]
  · rw [State.setIndex_change same, if_neg same]
    unfold State.formEstimate State.dropAnchor
    cases anchor : s.pru.anchor with
    | none => exact ⟨s.pru.anchor, s.pru.run, rfl⟩
    | some a =>
      cases start : s.pru.zones.startBlock n with
      | none => exact ⟨none, 0, rfl⟩
      | some e => exact ⟨some { a with estimated := e }, s.pru.run, rfl⟩

theorem State.judgeReport_accepted {b : Nat} {n : Int} {e : Nat} (test : s.reportTest true b = 0)
    (track : s.pru.zones.trackOf b = some n) (start : s.pru.zones.startBlock n = some e) :
    s.judgeReport true b = s.recorded b n e := by
  obtain ⟨a, r, moved⟩ := s.setIndex_record n
  unfold State.judgeReport State.acceptReport
  dsimp only
  rw [if_pos test, track, Option.getD_some, moved]
  simp only [start, Option.map_some]
  rfl

theorem State.judgeReport_rejected {good : Bool} {b n : Nat} (test : s.reportTest good b = n) (fails : n ≠ 0)
    (other : n ≠ 5) : s.judgeReport good b = s.bump .anchorReject := by
  unfold State.judgeReport State.rejectReport
  dsimp only
  rw [test, if_neg fails, if_neg other]

theorem State.judgeReport_disagreed {b : Nat} (test : s.reportTest true b = 5) :
    s.judgeReport true b =
      if 3 ≤ s.pru.run + 1 then
        ({ s.bump .anchorReject with pru := { s.pru with anchor := none, run := 0 } } : State).bump .anchorDrop
      else { s.bump .anchorReject with pru := { s.pru with run := s.pru.run + 1 } } := by
  unfold State.judgeReport State.rejectReport
  dsimp only
  rw [test, if_neg (by decide), if_pos rfl, State.bump_eq]
  rfl

/-! ### The judgement of reports by a seek -/

theorem State.bump_still (still : s.Still) (c : CounterId) : (s.bump c).arbitrate = s.bump c := by
  rw [State.bump_eq]
  exact still.idle ⟨rfl, rfl, rfl, rfl, rfl, ⟨rfl, rfl, rfl⟩, ⟨rfl, rfl, rfl⟩⟩

theorem State.seekReport_window {b : Nat} (inside : s.mve.target ≤ b + s.prm.seekWin ∧ b ≤ s.mve.target) :
    s.seekReport true b = s.completeMove .done none := by
  unfold State.seekReport
  rw [if_pos rfl, if_pos inside]

theorem State.seekReport_corrects {b : Nat} (outside : ¬(s.mve.target ≤ b + s.prm.seekWin ∧ b ≤ s.mve.target)) :
    s.seekReport true b = s.correctOnReport b := by
  unfold State.seekReport
  rw [if_pos rfl, if_neg outside]

/-- The distance of a correction: from the track of the report, 0 taken as -1 (R123). -/
theorem State.reportDistance_tracked {b : Nat} {n k : Int} (track : s.pru.zones.trackOf b = some n)
    (aim : s.pru.zones.trackOf s.mve.aim = some k) : s.reportDistance b = if k = n then -1 else k - n := by
  unfold State.reportDistance State.aimDistance
  rw [track, aim, Option.getD_some]
  by_cases same : k = n <;> simp [same, sub_eq_zero]

/-- A correction of at most 64 tracks: a jump phase (R108, R123). -/
theorem State.seekMove_jumps {d : Int} (moves : d ≠ 0) (near : d.natAbs ≤ 64) :
    s.seekMove d = s.startJumpPhase d.natAbs (dirOf d) := by
  unfold State.seekMove State.moveBy
  rw [if_neg moves]
  exact if_pos near

theorem TrackLoop.kicked_dirOf (r : TrackLoop) (kick : Nat) (d : Int) :
    r.kicked kick (dirOf d) =
      { r with
        state := .jumping, kick := .kick, jumpDir := if d < 0 then .inward else .outward, integ := 0, ePrev := 0
        resume := false, drive := if d < 0 then -(kick : Int) else kick } := by
  unfold dirOf
  by_cases back : d < 0 <;> simp [back, TrackLoop.kicked, Dir.step]

theorem State.judgeReport_third {b : Nat} (test : s.reportTest true b = 5) (run : s.pru.run = 2) :
    s.judgeReport true b =
      { s with
        pru := { s.pru with anchor := none, run := 0 }
        ctb := { s.ctb with anchorReject := s.ctb.anchorReject + 1, anchorDrop := s.ctb.anchorDrop + 1 }
        pifP :=
          (s.pifP.judgedAt .anchorReject (s.ctb.anchorReject + 1)).judgedAt .anchorDrop (s.ctb.anchorDrop + 1)
        pifD :=
          (s.pifD.judgedAt .anchorReject (s.ctb.anchorReject + 1)).judgedAt .anchorDrop (s.ctb.anchorDrop + 1) } := by
  rw [State.judgeReport_disagreed test, if_pos (by omega), State.bump_eq, State.bump_eq]
  rfl

theorem State.judgeReport_again {b : Nat} (test : s.reportTest true b = 5) (run : s.pru.run < 2) :
    s.judgeReport true b =
      ({ s with pru := { s.pru with run := s.pru.run + 1 } } : State).bump .anchorReject := by
  rw [State.judgeReport_disagreed test, if_neg (by omega), State.bump_eq, State.bump_eq]

/-- Settles O57: the judgement of the record by the first test that fails, and of the seek by its window. -/
theorem addressReportJudged : Obligations.AddressReportJudged := by
  intro f h l q s listens carries still
  dsimp only
  have answered : ∀ {u : State} {r : Response}, ownAddressReport .portP [h, l, q] s = (u, r) →
      exec (.addressReport .portP f) s = .next (u.respond .portP r) :=
    fun owner => congrArg Host.Outcome.next (State.takeRequest_ofP listens carries rfl owner)
  have rejected : ∀ {good : Bool} {n : Nat}, qualityOfCode q.toNat = some good →
      s.reportTest good (min (DWord.ofWords h l).toNat 449999) = n → n ≠ 0 → n ≠ 5 →
      (s.inAddressWait = true → good = false) →
      exec (.addressReport .portP f) s =
        .next
          ((s.bump .anchorReject).respond .portP
            { status := if 449999 < (DWord.ofWords h l).toNat then .clamped else .ok
              payload :=
                [wordOf n, wordOf s.pru.trackIndex, bytesWord s.pru.run (if s.pru.anchor.isSome then 1 else 0)] }) := by
    intro good n quality test fails other suspect
    have judged := State.judgeReport_rejected test fails other
    rw [answered (ownAddressReport_known quality test judged),
      State.handleReport_plain judged (State.bump_still still _) ?_, State.bump_eq]
    intro waits
    rw [suspect waits]
    rfl
  refine ⟨fun outside => answered (ownAddressReport_refused outside), fun suspect => ?_, fun n zero phase fails => ?_,
    fun n e zero phase drives closed agrees track start => ?_,
    fun n a zero phase drives closed anchor track far run => ?_,
    fun n a zero phase drives closed anchor track far run => ?_,
    fun m n e zero phase lone kind moving returns closed unanchored track start room => ?_⟩
  · subst suspect
    exact rejected rfl rfl (by decide) (by decide) (fun _ => rfl)
  · subst zero
    have idle := State.inAddressWait_false phase
    refine rejected rfl (good := true) ?_ ?_ ?_ (fun waits => absurd (idle.symm.trans waits) Bool.false_ne_true)
    · rcases fails with ⟨rfl, drives⟩ | ⟨rfl, drives, closed⟩ | ⟨rfl, drives, closed, outside⟩
      · exact State.reportTest_idle ((State.reportDrive_iff phase).not.mpr drives)
      · exact State.reportTest_undriven ((State.reportDrive_iff phase).mpr drives) closed
      · exact State.reportTest_outside ((State.reportDrive_iff phase).mpr drives) closed
          (ZoneTable.inRange_false outside)
    · rcases fails with ⟨rfl, -⟩ | ⟨rfl, -⟩ | ⟨rfl, -⟩ <;> decide
    · rcases fails with ⟨rfl, -⟩ | ⟨rfl, -⟩ | ⟨rfl, -⟩ <;> decide
  · subst zero
    have plain := State.inAddressWait_false phase
    have agree : s.agrees (min (DWord.ofWords h l).toNat 449999) = true :=
      agrees.elim (State.agrees_none _) fun near => by
        cases anchor : s.pru.anchor with
        | none => exact State.agrees_none _ anchor
        | some a => rw [State.agrees_some anchor track]; exact decide_eq_true near
    have test := State.reportTest_accepted ((State.reportDrive_iff phase).mpr drives) closed
      (ZoneTable.inRange_of_trackOf track) agree
    have judged := State.judgeReport_accepted test track start
    have settled : (s.recorded (min (DWord.ofWords h l).toNat 449999) n e).arbitrate = s.recorded _ n e :=
      still.idle ⟨rfl, rfl, rfl, rfl, rfl, ⟨rfl, rfl, rfl⟩, ⟨rfl, rfl, rfl⟩⟩
    refine ⟨s.recorded (min (DWord.ofWords h l).toNat 449999) n e, ?_, rfl, fun change => if_neg change⟩
    rw [answered (ownAddressReport_known rfl test judged), State.handleReport_plain judged settled
      (fun waits => absurd (plain.symm.trans waits) Bool.false_ne_true)]
    rfl
  · subst zero
    have plain := State.inAddressWait_false phase
    have test := State.reportTest_disagrees ((State.reportDrive_iff phase).mpr drives) closed
      (ZoneTable.inRange_of_trackOf track) (by rw [State.agrees_some anchor track]; exact decide_eq_false (by omega))
    have judged := State.judgeReport_again test run
    rw [answered (ownAddressReport_known rfl test judged), State.handleReport_plain judged ?_
      (fun waits => absurd (plain.symm.trans waits) Bool.false_ne_true), State.bump_eq]
    · dsimp only
      rw [anchor]
      rfl
    · rw [State.bump_eq]
      exact still.idle ⟨rfl, rfl, rfl, rfl, rfl, ⟨rfl, rfl, rfl⟩, ⟨rfl, rfl, rfl⟩⟩
  · subst zero
    have plain := State.inAddressWait_false phase
    have test := State.reportTest_disagrees ((State.reportDrive_iff phase).mpr drives) closed
      (ZoneTable.inRange_of_trackOf track) (by rw [State.agrees_some anchor track]; exact decide_eq_false (by omega))
    have judged := State.judgeReport_third test run
    have run := answered (ownAddressReport_known rfl test judged)
    rw [State.handleReport_plain judged ?_
      (fun waits => absurd (plain.symm.trans waits) Bool.false_ne_true)] at run
    · refine ⟨s.judgeReport true (min (DWord.ofWords h l).toNat 449999), ?_, ?_, ?_⟩
      · rewrite [judged, show (0 : Word) = bytesWord 0 0 by decide]
        exact run
      · rewrite [judged]
        rfl
      · rewrite [judged]
        rfl
    · exact still.idle ⟨rfl, rfl, rfl, rfl, rfl, ⟨rfl, rfl, rfl⟩, ⟨rfl, rfl, rfl⟩⟩
  · subst zero
    have alone := lone.lone
    obtain ⟨active, -⟩ := lone
    have waits : s.inAddressWait = true := by simp [State.inAddressWait, active, phase]
    have drives : s.reportDrive = true := by simp [State.reportDrive, moving, waits]
    have test := State.reportTest_accepted drives closed (ZoneTable.inRange_of_trackOf track)
      (State.agrees_none _ unanchored)
    have judged := State.judgeReport_accepted test track start
    have after : m.kind.driveAfter s.mve.returnState = some .tracking := by rw [kind]; exact returns
    have run := answered (ownAddressReport_known rfl test judged)
    unfold State.handleReport at run
    rw [if_pos waits, judged] at run
    refine ⟨fun inside => ?_, fun outside spent => ?_, fun k outside left held aim near lens => ?_⟩
    · rw [State.seekReport_window ?_, Arb.Lone.completes (m := m) ?_ ?_ ?_ ?_ ?_] at run
      · exact ⟨_, run, ⟨rfl, rfl, rfl, rfl, rfl, rfl, rfl, rfl, rfl, by rw [← kind]; rfl⟩, rfl⟩
      · exact alone
      · exact active
      · exact after
      · exact room
      · exact State.endMove_setDrive_tracking moving
      · exact inside
    · rw [State.seekReport_corrects ?_, State.correctOnReport, State.correctWith_exhausted ?_, State.bump_eq,
        Arb.Lone.completes (m := m) ?_ ?_ ?_ ?_ ?_] at run
      · exact ⟨_, run, ⟨rfl, rfl, rfl, rfl, rfl, rfl, rfl, rfl, rfl, by rw [← kind]; rfl⟩, rfl⟩
      · exact alone
      · exact active
      · exact after
      · exact room
      · exact State.endMove_setDrive_tracking moving
      · exact spent
      · exact outside
    · have moves : (if k = n then -1 else k - n) ≠ 0 := by split <;> omega
      have short : (if k = n then -1 else k - n : Int).natAbs ≤ 64 := by split <;> omega
      rw [State.seekReport_corrects ?_, State.correctOnReport, State.correctWith_corrects ?_ ?_, State.bump_eq,
        State.reportDistance_tracked (n := n) (k := k) ?_ ?_, State.seekMove_jumps moves short,
        State.startJumpPhase_taken ?_, TrackLoop.kicked_dirOf, State.arbitrate_busy (State.pickupFree_active (m := m) ?_)]
        at run
      · exact ⟨_, run, rfl, rfl, rfl, rfl, rfl, rfl, rfl, rfl⟩
      · exact active
      · exact lens
      · exact track
      · exact aim
      · exact left
      · exact held
      · exact outside

end Sys2Proof.Machine
end

section
/-!
PROOFS. The grant of a submission at its arrival, and the preemption by an urgent one (chapter 7).
-/

namespace Sys2Proof.Machine

variable {s : State}

/-! ### Choices -/

theorem State.choose_busy (n : Nat) (busy : s.pickupFree = false) : State.choose n s = s := by
  cases n with
  | zero => rfl
  | succ n =>
    unfold State.choose
    simp [State.chooseOnce, busy]

theorem State.NothingWaits.candidate (nothing : s.NothingWaits) : s.candidate = none := by
  obtain ⟨queueP, queueD, urgent⟩ := nothing
  have heads : ∀ p, s.eligibleHead p = none := by
    intro p
    unfold State.eligibleHead
    split
    case isTrue => rfl
    case isFalse => cases p <;> simp [State.queueOf, queueP, queueD]
  have unclaimed : s.continuation = none := by
    unfold State.continuation
    cases s.arb.claim <;> simp [heads]
  simp [State.candidate, State.byPolicy, heads, unclaimed, urgent]

theorem State.entriesHeld_eq_zero : s.entriesHeld = 0 ↔ s.NothingWaits := by
  simp [State.entriesHeld, State.NothingWaits, Nat.add_eq_zero_iff, and_assoc]

theorem State.chooseOnce_some {t : State} :
    s.chooseOnce = some t ↔ s.pickupFree = true ∧ ∃ c, s.candidate = some c ∧ s.grant c = t := by
  unfold State.chooseOnce
  cases s.pickupFree <;> simp

/-- A grant after which the pickup is in use is the whole choice (R142). -/
theorem State.arbitrate_grants {c : Candidate} (free : s.pickupFree = true) (names : s.candidate = some c)
    (busy : (s.grant c).pickupFree = false) : s.arbitrate = s.grant c := by
  have once : s.chooseOnce = some (s.grant c) := State.chooseOnce_some.mpr ⟨free, c, names, rfl⟩
  unfold State.arbitrate
  cases held : s.entriesHeld with
  | zero => rw [(State.entriesHeld_eq_zero.mp held).candidate] at names; cases names
  | succ n =>
    unfold State.choose
    rw [once]
    exact State.choose_busy n busy

/-- A head of Port P that stands alone is the candidate (R143, R144). -/
theorem State.candidate_aloneP {e : Entry} (inLine : s.arb.urgentWaiting = false) (unclaimed : s.arb.claim = .none)
    (queueP : s.arb.queueP = [e]) (queueD : s.arb.queueD = []) (room : ¬(s.pifP.mode = .holdOff ∧ s.pifP.fill = 2)) :
    s.candidate = some { source := .queueP, entry := e, run := 0 } := by
  have headP : s.eligibleHead .portP = some e := by
    rw [State.eligibleHead_open (p := .portP) room, State.queueOf, queueP, List.head?_cons]
  have headD : s.eligibleHead .portD = none := by
    unfold State.eligibleHead
    rw [State.queueOf, queueD, List.head?_nil, ite_self]
  simp [State.candidate_inLine inLine, State.continuation_unclaimed unclaimed, State.byPolicy, headP, headD]

/-! ### The start of a move -/

/-- The Move Engine with a move that has just been granted (R103). -/
def Mve.granted (v : Mve) (m : ActiveMove) : Mve :=
  { v with
    active := some m, elapsed := 0, corrections := 0, crossings := 0, closeTries := 0, timedOut := false
    measured := none }

/-- A move that is ready runs from the drive state of its kind (R103 to R105). -/
theorem State.beginMove_goes {m : ActiveMove} {marked : Option Nat}
    (ready : ({ s with mve := s.mve.granted m } : State).readiness m marked = .go) :
    s.beginMove m marked =
      (({ s with mve := { s.mve.granted m with returnState := some s.dsv.drive } } : State).setDrive
        m.kind.driveDuring).firstPhase m marked := by
  unfold State.beginMove
  dsimp only
  unfold Mve.granted at ready
  rw [ready]
  rfl

theorem State.readiness_tracking {m : ActiveMove} (marked : Option Nat) (tracking : s.dsv.drive = .tracking)
    (kind : m.kind = .jump ∨ m.kind = .stop) : s.readiness m marked = .go := by
  unfold State.readiness State.kindCheck
  rcases kind with kind | kind <;> simp [tracking, kind]

/-! ### The grant of a jump -/

/-- A jump of Port P granted in TRACKING (R37, R103, R104, R108, R119, R147). -/
theorem State.grant_jump {e : Entry} {r : Nat} {d : Int} (kind : e.kind = .jump) (arg : e.arg = some d) (moves : d ≠ 0)
    (near : d.natAbs ≤ 64) (tracking : s.dsv.drive = .tracking) (lens : s.lensTaken = true) :
    s.grant { source := .queueP, entry := e, run := r } =
      { s with
        track := s.track.kicked s.prm.kick (dirOf d), dfe := s.dfe.ordered s.track.state .jumping, pru := s.pru.dropped
        arb := { s.arb with source := .queueP, claim := .none, run := r }, dsv := { s.dsv with drive := .moving }
        pifP := s.pifP.told .driveState, pifD := s.pifD.told .driveState
        mve :=
          { s.mve with
            active :=
              some
                { port := .portP, ticket := e.ticket, kind := .jump, arg := some d, urgent := false, chain := e.chain }
            returnState := some .tracking, phase := .jump, crossings := 0, jumpSize := d.natAbs, jumpDir := dirOf d
            jumpTimer := .started, closeTries := 0, timedOut := false, corrections := 0, measured := none, elapsed := 0
            settling := false } } := by
  obtain ⟨ticket, kind', arg', chain⟩ := e
  cases kind
  cases arg
  have actions :
      s.grantActions { source := .queueP, entry := ⟨ticket, .jump, some d, chain⟩, run := r } =
        { s with arb := { s.arb with source := .queueP, claim := .none, run := r }, pru := s.pru.dropped } :=
    State.dropAnchor_eq _
  have first : ∀ (t : State) (m : ActiveMove) (marked : Option Nat), m.kind = .jump → m.arg = some d →
      t.firstPhase m marked = t.startJumpPhase d.natAbs (dirOf d) := by
    intro t m marked kind arg
    unfold State.firstPhase State.moveBy
    simp only [kind, arg, Option.getD_some, if_neg moves]
    exact if_pos near
  unfold State.grant
  rw [actions, State.beginMove_goes (State.readiness_tracking _ ?_ ?_), State.setDrive_settled ?_ ?_ ?_,
    first _ _ _ ?_ ?_, State.startJumpPhase_taken ?_, tracking]
  · rfl
  · exact lens
  · rfl
  · rfl
  · show DriveState.moving ≠ s.dsv.drive
    rw [tracking]; decide
  · rfl
  · show s.dsv.drive ≠ .holding
    rw [tracking]; decide
  · exact tracking
  · exact .inl rfl

/-- The entry of a jump of Port P that is taken in (R136). -/
def State.jumpEntry (s : State) (d : Int) (chain : Bool) : Entry :=
  { ticket := s.nextTicket .portP, kind := .jump, arg := some d, chain := chain }

/-- Settles O41: the arrival joins an empty queue, and the choice grants it. -/
theorem submitJumpGranted : Obligations.SubmitJumpGranted := by
  intro f w h l s
  dsimp only
  intro listens carries kind inLine low high moves nothing urgent free tracking lens closed room unclaimed
  have known : submissionOf [w, h, l] = some (submitted .jump w h l) := submissionOf_known (by rw [kind]; rfl)
  obtain ⟨queueP, queueD, slot⟩ := nothing
  have accepted : s.submitRefusal .portP (submitted .jump w h l) = none := by
    have own : ¬((Port.portP = .portD ∧ (submitted .jump w h l).kind = .resumeMark) ∨
        (Port.portP = .portP ∧ (submitted .jump w h l).urgent = true)) := by
      rintro (⟨other, -⟩ | ⟨-, urgent⟩)
      · cases other
      · exact Bool.false_ne_true (inLine.symm.trans urgent)
    rw [State.submitRefusal_inLine own inLine, if_neg (by simp [State.queueOf, queueP])]
  have argument : MoveKind.argOf .jump (DWord.ofWords h l).toInt = some (DWord.ofWords h l).toInt := by
    rw [MoveKind.argOf_eq]
    exact congrArg some (by omega)
  have granted {t : State} (tracking : t.dsv.drive = .tracking) (lens : t.lensTaken = true) :=
    State.grant_jump (e := s.jumpEntry (DWord.ofWords h l).toInt (w.getLsbD 0)) (r := 0) rfl rfl moves (by omega) tracking lens
  have joined : s.enqueue .portP (submitted .jump w h l) =
      { s with
        pifP := { s.pifP with ticket := (s.nextTicket .portP + 1) % 8 }
        arb := { s.arb with queueP := [s.jumpEntry (DWord.ofWords h l).toInt (w.getLsbD 0)] } } := by
    rw [State.enqueue_inLine inLine, State.entryOf]
    simp only [submitted, argument, State.queueOf, queueP, List.nil_append]
    rfl
  have arrives : s.acceptSubmission .portP (submitted .jump w h l) = (s.enqueue .portP (submitted .jump w h l)).arbitrate := by
    unfold State.acceptSubmission
    exact congrArg State.arbitrate (if_neg (ne_true_of_eq_false inLine))
  have unclamped : (submitted .jump w h l).kind.argClamped (submitted .jump w h l).arg = false := by
    rw [MoveKind.argClamped_eq]
    show (MoveKind.argOf .jump (DWord.ofWords h l).toInt).any _ = false
    rw [argument]
    exact decide_eq_false (not_not.mpr rfl)
  have run := State.takeRequest_answers listens carries rfl (ownSubmit_accepted known accepted)
  rw [unclamped, arrives, joined, State.arbitrate_grants ?_ (State.candidate_aloneP ?_ ?_ rfl ?_ ?_) ?_, granted ?_ ?_,
    Dfe.ordered_change ?_, TrackLoop.kicked_dirOf] at run
  · refine ⟨_, congrArg Host.Outcome.next run, ?_, Pru.dropped_anchor _, Pru.dropped_trackIndex _, rfl, rfl⟩
    refine State.eq_iff.mpr ⟨rfl, rfl, rfl, rfl, rfl, rfl, rfl, rfl, rfl, rfl, rfl, rfl, ?_, rfl, rfl, rfl, rfl, rfl⟩
    rewrite [← unclaimed]
    rfl
  · show TrackState.jumping ≠ s.track.state
    rw [closed]; decide
  · exact tracking
  · exact lens
  · exact free
  · exact urgent
  · exact unclaimed
  · exact queueD
  · exact room
  · rw [granted ?_ ?_]
    · exact State.pickupFree_active rfl
    · exact tracking
    · exact lens

/-! ### The abort of a jump -/

/-- What the abort of a jump in MOVING leaves behind before its result (R128). -/
def State.jumpAborted (s : State) : State :=
  { s with
    mve := s.mve.endMove, slc := s.slc.halted, dsv := { s.dsv with drive := .tracking }
    pifP := s.pifP.told .driveState, pifD := s.pifD.told .driveState }

section
variable {m : ActiveMove} (kind : m.kind = .jump) (moving : s.dsv.drive = .moving)
  (returns : s.mve.returnState = some .tracking)
include kind moving returns

theorem State.jumpAborted_eq :
    s.endMove.sledStop.setDrive (s.mve.returnState.getD .tracking) = s.jumpAborted ∧ m.kind.stopsDrive = false := by
  refine ⟨?_, by rw [kind]; rfl⟩
  rw [returns, Option.getD_some, State.sledStop_eq, State.setDrive_settled ?_ rfl ?_]
  · rfl
  · show DriveState.tracking ≠ s.dsv.drive
    rw [moving]; decide
  · show s.dsv.drive ≠ .holding
    rw [moving]; decide

theorem State.abortMove_jump_told (active : s.mve.active = some m) (o : MoveOutcome) (stopNext : Bool) :
    s.abortMove (some o) stopNext =
      if stopNext then s.jumpAborted.finishMove (some m) o none
      else (s.jumpAborted.finishMove (some m) o none).startSettling := by
  obtain ⟨returned, going⟩ := State.jumpAborted_eq kind moving returns
  unfold State.abortMove
  simp only [active, going, returned, Bool.false_or, Bool.false_eq_true, if_false]

theorem State.abortMove_jump_silent (active : s.mve.active = some m) (stopNext : Bool) :
    s.abortMove none stopNext =
      if stopNext then s.jumpAborted.arbComplete none m.chain
      else (s.jumpAborted.arbComplete none m.chain).startSettling := by
  obtain ⟨returned, going⟩ := State.jumpAborted_eq kind moving returns
  unfold State.abortMove
  simp only [active, going, returned, Bool.false_or, Bool.false_eq_true, if_false]

end

/-! ### The end of a move of Port P that stands alone -/

theorem State.finishMove_aloneP {m : ActiveMove} {e : Entry} (port : m.port = .portP) (unhurried : m.urgent = false)
    (source : s.arb.source = .queueP) (queue : s.arb.queueP = [e]) (room : s.pifP.older = none) (o : MoveOutcome)
    (done : o ≠ .done) :
    s.finishMove (some m) o none =
      { s with
        arb := { s.arb with queueP := [], source := .none, claim := .none }
        pifP := ({ s.pifP with older := some { s.loneResult m o none with port := .portP } } : Pif).told .result } := by
  have result : s.resultOf m o none = { s.loneResult m o none with port := .portP } := by
    unfold State.resultOf State.loneResult
    simp [port, unhurried, State.queueOf, queue]
  have stored : s.storeResult { s.loneResult m o none with port := .portP } =
      { s with
        pifP :=
          ({ s.pifP with older := some { s.loneResult m o none with port := .portP } } : Pif).told .result } := by
    unfold State.storeResult
    simp only [State.pif_portP, room]
    rfl
  unfold State.finishMove
  dsimp only
  rw [result, stored]
  unfold State.arbComplete State.shrinkQueue
  simp only [source, queue, State.queueOf, List.length_singleton, Option.some.injEq, done, false_and, if_false]
  rfl

/-! ### The grant of an urgent STOP -/

theorem Pru.dropped_twice (v : Pru) : v.dropped.dropped = v.dropped := Pru.dropped_unanchored v.dropped_anchor

theorem Slc.halted_twice (c : Slc) : c.halted.halted = c.halted := by
  obtain ⟨state, _, homed⟩ := c
  cases state <;> cases homed <;> rfl

/-- The four orders of a STOP, and SPIN_DOWN while the disc turns (R72, R113). -/
theorem State.startSpinDown_eq (turning : s.spc.state ≠ .stopped) :
    s.startSpinDown =
      { s with
        track := s.track.emptied .opened, focus := s.focus.emptied, dfe := s.dfe.ordered s.track.state .opened
        slc := s.slc.halted, spc := s.spc.braked, dsv := { s.dsv with laser := false }
        mve := { s.mve with phase := .spinDown, settling := false } } := by
  unfold State.startSpinDown
  dsimp only
  rw [if_neg turning, State.focusOpen_eq, State.sledStop_eq, State.brakeOrder_eq]
  rfl

/-- An urgent STOP granted in TRACKING (R103 to R105, R113, R147). -/
theorem State.grant_stop {e : Entry} (kind : e.kind = .stop) (tracking : s.dsv.drive = .tracking)
    (turning : s.spc.state ≠ .stopped) :
    s.grant { source := .urgent, entry := e, run := 0 } =
      { s with
        track := s.track.emptied .opened, focus := s.focus.emptied, dfe := s.dfe.ordered s.track.state .opened
        slc := s.slc.halted, spc := s.spc.braked, pru := s.pru.dropped
        arb := { s.arb with source := .urgent, urgentWaiting := false, claim := .none, run := 0, mark := none }
        dsv := { s.dsv with drive := .stopping, laser := false }
        pifP := (s.pifP.unmarked s.arb.mark).told .driveState, pifD := s.pifD.told .driveState
        mve :=
          { s.mve.granted
              { port := .portD, ticket := e.ticket, kind := .stop, arg := e.arg, urgent := true, chain := e.chain } with
            returnState := some .tracking, phase := .spinDown, settling := false } } := by
  obtain ⟨ticket, kind', arg, chain⟩ := e
  cases kind
  have actions :
      s.grantActions { source := .urgent, entry := ⟨ticket, .stop, arg, chain⟩, run := 0 } =
        { s with
          arb := { s.arb with source := .urgent, urgentWaiting := false, claim := .none, run := 0, mark := none }
          pru := s.pru.dropped, pifP := s.pifP.unmarked s.arb.mark } := by
    show (State.dropAnchor _).clearMark true = _
    rw [State.dropAnchor_eq, State.clearMark_told]
    rfl
  unfold State.grant
  rw [actions, State.beginMove_goes (State.readiness_tracking _ ?_ ?_), State.setDrive_unsettled ?_ ?_]
  · show State.startSpinDown _ = _
    rw [State.startSpinDown_eq ?_, Pru.dropped_twice, tracking]
    · rfl
    · exact turning
  · show DriveState.stopping ≠ s.dsv.drive
    rw [tracking]; decide
  · rfl
  · exact tracking
  · exact .inr rfl

/-! ### The preemption -/

/-- An urgent arrival ends a jump of Port P that stands alone in its queue (R128, R138, R139). -/
theorem State.preempt_jump {m : ActiveMove} {e : Entry} (active : s.mve.active = some m) (kind : m.kind = .jump)
    (port : m.port = .portP) (unhurried : m.urgent = false) (moving : s.dsv.drive = .moving)
    (returns : s.mve.returnState = some .tracking) (source : s.arb.source = .queueP) (queue : s.arb.queueP = [e])
    (room : s.pifP.older = none) (stops : s.urgentStops = true) :
    s.preempt =
      ({ s.jumpAborted with
          arb := { s.arb with queueP := [], source := .none, claim := .none }
          pifP :=
            ({ s.pifP.told .driveState with
                older := some { s.loneResult m .abortedUrgent none with port := .portP } } : Pif).told .result } :
        State).bump .preempt := by
  unfold State.preempt
  rw [if_pos source, State.abortMove_jump_told kind moving returns active, if_pos stops,
    State.finishMove_aloneP (e := e) port unhurried ?_ ?_ ?_ _ (by decide)]
  · rfl
  · exact source
  · exact queue
  · exact room

/-- Settles O42: the abort, and the grant of the STOP that the choice names first. -/
theorem urgentStopPreempts : Obligations.UrgentStopPreempts := by
  intro f w h l m e s listens carries kind urgent slot source queueP queueD active port jump unhurried moving returns
    holdJump activity permit locked room
  have known : submissionOf [w, h, l] = some (submitted .stop w h l) := submissionOf_known (by rw [kind]; rfl)
  have accepted : s.submitRefusal .portD (submitted .stop w h l) = none := by
    have own : ¬((Port.portD = .portD ∧ (submitted .stop w h l).kind = .resumeMark) ∨
        (Port.portD = .portP ∧ (submitted .stop w h l).urgent = true)) := by
      rintro (⟨-, other⟩ | ⟨other, -⟩) <;> cases other
    rw [State.submitRefusal_urgent own urgent rfl, slot]
    rfl
  have joined : s.enqueue .portD (submitted .stop w h l) =
      { s with
        pifD := { s.pifD with ticket := (s.nextTicket .portD + 1) % 8 }
        arb := { s.arb with urgent := some (s.entryOf .portD (submitted .stop w h l)), urgentWaiting := true } } :=
    if_pos urgent
  have arrives : s.acceptSubmission .portD (submitted .stop w h l) =
      (s.enqueue .portD (submitted .stop w h l)).preempt.arbitrate := by
    unfold State.acceptSubmission
    exact congrArg State.arbitrate (if_pos urgent)
  have run := State.takeRequest_answers listens carries rfl (ownSubmit_accepted known accepted)
  rw [arrives, joined, State.preempt_jump (e := e) ?_ jump port unhurried ?_ ?_ ?_ ?_ ?_ ?_, State.bump_eq,
    State.arbitrate_grants (c := { source := .urgent, entry := s.entryOf .portD (submitted .stop w h l), run := 0 })
      ?_ ?_ ?_,
    State.grant_stop ?_ ?_ ?_] at run
  · refine ⟨_, congrArg Host.Outcome.next run, ?_, rfl, rfl, ?_, Pru.dropped_anchor _, rfl, rfl, rfl, rfl, rfl, rfl, rfl,
      rfl, ?_, ?_⟩
    · rw [State.brakeOrder_eq, State.sledStop_eq]
      exact State.eq_iff.mpr ⟨rfl, rfl, rfl, rfl, rfl, rfl, rfl, rfl, rfl, Slc.halted_twice _, rfl, rfl, rfl, rfl, rfl,
        rfl, rfl, rfl⟩
    · show s.spc.braked.state = .braking
      rw [Spc.braked_turning permit (.inr (.inr locked))]
    · unfold Pif.unmarked
      split <;> exact congrArg some (jump ▸ rfl)
    · show some (Response.mk .accepted [bytesWord (s.nextTicket .portD) s.arb.queueD.length, 0]) = _
      rw [queueD]
      rfl
  · rfl
  · rfl
  · show s.spc.state ≠ .stopped
    rw [locked]; decide
  · show (true && decide (s.mve.holdJump = .none) && decide (s.mve.activity = .none) && true && true) = true
    rw [holdJump, activity]
    rfl
  · rfl
  · rw [State.grant_stop rfl ?_ ?_]
    · exact State.pickupFree_active rfl
    · rfl
    · show s.spc.state ≠ .stopped
      rw [locked]; decide
  · exact active
  · exact moving
  · exact returns
  · exact source
  · exact queueP
  · exact room
  · rfl

end Sys2Proof.Machine
end

section
/-!
PROOFS. The requests that take a port's entries out of the Arbiter: FLUSH and RESET_PORT (chapter 7).
-/

namespace Sys2Proof.Machine

variable {s : State} {p : Port}

/-! ### The chain claim -/

/-- A claim once a port's own claim has been dropped (R149, R151). -/
def Claim.without (c : Claim) (p : Port) : Claim :=
  if (p = .portP ∧ c = .queueP) ∨ (p = .portD ∧ c = .queueD) then .none else c

theorem State.dropClaim_eq (s : State) (p : Port) :
    s.dropClaim p = { s with arb := { s.arb with claim := s.arb.claim.without p } } := by
  unfold State.dropClaim Claim.without
  split
  case isTrue => rfl
  case isFalse => rfl

theorem Claim.without_change {c : Claim} (change : c.without p ≠ c) : c.without p = .none := by
  unfold Claim.without at change ⊢
  split
  case isTrue => rfl
  case isFalse other => exact absurd (if_neg other) change

theorem Claim.without_own (c : Claim) (p : Port) :
    ¬(p = .portP ∧ c.without p = .queueP) ∧ ¬(p = .portD ∧ c.without p = .queueD) := by
  cases c <;> cases p <;> decide

/-! ### FLUSH -/

/-- The state that a FLUSH without abort leaves behind before the choice (R135, R149). -/
def State.flushed (s : State) (p : Port) : State :=
  (({ s with arb := { s.arb with claim := s.arb.claim.without p } } : State).setQueue p (s.activeHead p)).setPif p
    { s.pif p with
      flags :=
        if (s.queueOf p).length = 4 ∧ (s.activeHead p).length < 4 then (s.pif p).flags ||| Notice.qspace.flag
        else (s.pif p).flags }

theorem State.flushSteps_keeps (s : State) (p : Port) : s.flushSteps p false = s.flushed p := by
  unfold State.flushSteps State.removeWaiting State.flushed
  dsimp only
  rw [if_neg Bool.false_ne_true, State.dropClaim_eq]
  cases p
  case portP =>
    by_cases full : (s.queueOf .portP).length = 4 ∧ (s.activeHead .portP).length < 4
    · rw [if_pos full]
      exact if_pos full
    · rw [if_neg full]
      exact if_neg full
  case portD =>
    by_cases full : (s.queueOf .portD).length = 4 ∧ (s.activeHead .portD).length < 4
    · rw [if_pos full]
      exact if_pos full
    · rw [if_neg full]
      exact if_neg full

theorem State.flushed_pickupFree (s : State) (p : Port) : (s.flushed p).pickupFree = s.pickupFree := by
  cases p <;> rfl

theorem ownFlush_eq (s : State) (p : Port) (w : Word) :
    ownFlush p [w] s =
      ((s.flushSteps p (w.getLsbD 0)).arbitrate,
        { status := .ok
          payload := [bytesWord (((s.waiting p).head?.map (·.ticket)).getD 0) (s.waiting p).length] }) := rfl

/-- A move of Port D that stands alone has no waiting entry beside it. -/
theorem State.LoneMove.removeWaiting {m : ActiveMove} (lone : s.LoneMove m) : s.removeWaiting .portD = s := by
  have head : s.activeHead .portD = s.arb.queueD := by
    unfold State.activeHead
    rw [lone.lone.source]
    exact List.take_of_length_le (by rw [lone.lone.alone])
  unfold State.removeWaiting
  rw [head]
  rfl

theorem State.LoneMove.owns {m : ActiveMove} (lone : s.LoneMove m) : s.ownsActive .portD = true := by
  simp [State.ownsActive, lone.lone.source]

/-- A settling close given at an abort (R128, R130). -/
theorem State.startSettling_eq (lens : s.lensTaken = true) :
    s.startSettling =
      { s with
        track := s.track.closing, dfe := s.dfe.ordered s.track.state .closing
        mve := { s.mve with settling := true, settleTries := 1 } } := by
  unfold State.startSettling
  rw [if_pos lens, State.closeCommand_eq ?_]
  exact lens

/-- Settles O45: the waiting entries that go, and the abort of a lone jump. -/
theorem flushRemovesWaiting : Obligations.FlushRemovesWaiting := by
  intro p f w s listens carries
  dsimp only
  refine ⟨fun keep busy => ?_, fun abort portD m lone jump inLine moving returns lens room => ?_⟩
  · have answered := ownFlush_eq s p w
    rw [keep, State.flushSteps_keeps, State.arbitrate_busy (by rw [State.flushed_pickupFree, busy])] at answered
    refine ⟨s.flushed p, congrArg Host.Outcome.next (State.takeRequest_answers listens carries rfl answered), ?_⟩
    obtain ⟨notP, notD⟩ := s.arb.claim.without_own p
    cases p
    case portP => exact ⟨rfl, rfl, rfl, rfl, rfl, Claim.without_change, notP, notD, rfl⟩
    case portD => exact ⟨rfl, rfl, rfl, rfl, rfl, Claim.without_change, notP, notD, rfl⟩
  · subst portD
    have alone := lone.lone
    have own := lone.owns
    have stays := lone.removeWaiting
    obtain ⟨active, -⟩ := lone
    have calm : s.urgentStops = false := by simp [State.urgentStops, inLine]
    have short : ¬((s.queueOf .portD).length = 4 ∧ ([] : List Entry).length < 4) := by
      rintro ⟨full, -⟩
      exact absurd (alone.alone.symm.trans full) (by decide)
    have answered := ownFlush_eq s .portD w
    rw [abort] at answered
    have run := State.takeRequest_answers listens carries rfl answered
    unfold State.flushSteps State.abortOwn at run
    dsimp only at run
    rw [stays, if_pos rfl, if_pos own, calm, State.abortMove_jump_told jump moving returns active,
      if_neg Bool.false_ne_true, Arb.Lone.finishMove ?_ ?_, State.startSettling_eq ?_, State.dropClaim_eq] at run
    · rw [if_neg ?_, alone.arbitrate (claim := .none) ?_] at run
      · refine ⟨_, congrArg Host.Outcome.next run, ?_, rfl, rfl, rfl, rfl, rfl, ?_⟩
        · rw [State.sledStop_eq]
          rfl
        · show some (m.ticket, m.kind, MoveOutcome.abortedFlush, true) = _
          rw [jump]
      · rfl
      · exact short
    · exact lens
    · exact alone
    · exact room

/-! ### RESET_PORT -/

/-- A port's interface after its reset (R183). -/
def Pif.restored (v : Pif) (c : CounterBank) : Pif :=
  { v with
    older := none, newer := none, dropped := 0, mode := .holdOff, flags := 0, mask := 0, baselines := c, ticket := 0 }

theorem State.resetPif_eq (s : State) (p : Port) : s.resetPif p = s.setPif p ((s.pif p).restored s.ctb) := rfl

theorem ownResetPort_eq (s : State) (p : Port) :
    ownResetPort p [] s = (((s.resetArb p).resetPif p).arbitrate, { status := .ok, payload := [] }) := rfl

theorem State.activeHead_foreign (foreign : s.ownsActive p = false) : s.activeHead p = [] := by
  unfold State.ownsActive at foreign
  unfold State.activeHead
  cases p <;> cases source : s.arb.source <;> simp [source] at foreign ⊢

/-- Every entry of a port that owns no active move leaves its queue, and no move is aborted (R151 steps 1 and 2). -/
theorem State.abortOwn_foreign (foreign : s.ownsActive p = false) (o : Option MoveOutcome) (stop : Bool) :
    (s.removeWaiting p).abortOwn p o stop = s.setQueue p [] := by
  have unowned : (s.removeWaiting p).ownsActive p = false := by cases p <;> exact foreign
  unfold State.abortOwn
  rw [unowned, if_neg Bool.false_ne_true, State.removeWaiting, State.activeHead_foreign foreign]

theorem State.resetArb_portP (foreign : s.ownsActive .portP = false) :
    s.resetArb .portP =
      { s with arb := { s.arb with queueP := [], claim := s.arb.claim.without .portP, mark := none } } := by
  unfold State.resetArb
  dsimp only
  rw [State.abortOwn_foreign foreign, if_pos rfl, State.dropClaim_eq, State.clearMark_silent]
  rfl

theorem State.removeUrgent_portD (s : State) :
    s.removeUrgent .portD =
      { s with
        arb :=
          { s.arb with
            urgentWaiting := false, urgent := if s.arb.urgentWaiting = true then none else s.arb.urgent } } := by
  unfold State.removeUrgent
  by_cases waits : s.arb.urgentWaiting = true
  · rw [if_pos ⟨rfl, waits⟩, if_pos waits]
  · rw [if_neg fun both => waits both.2, if_neg waits, ← eq_false_of_ne_true waits]

theorem State.removeUrgent_quiet (inLine : s.arb.urgentWaiting = false) (p : Port) : s.removeUrgent p = s :=
  if_neg fun both => Bool.false_ne_true (inLine.symm.trans both.2)

theorem State.resetArb_portD (foreign : s.ownsActive .portD = false) :
    s.resetArb .portD =
      { s with
        arb :=
          { s.arb with
            queueD := [], claim := s.arb.claim.without .portD, urgentWaiting := false
            urgent := if s.arb.urgentWaiting = true then none else s.arb.urgent } } := by
  unfold State.resetArb
  dsimp only
  rw [State.abortOwn_foreign foreign, State.removeUrgent_portD, State.dropClaim_eq]
  rfl

/-- Settles O46: the port that owns no move, and the lone jump of Port D aborted without a record. -/
theorem resetPortReturnsPort : Obligations.ResetPortReturnsPort := by
  intro p f s listens carries
  refine ⟨fun m portD lone jump inLine moving returns lens => ?_, fun foreign busy => ?_⟩
  · subst portD
    have alone := lone.lone
    have own := lone.owns
    have stays := lone.removeWaiting
    obtain ⟨active, -⟩ := lone
    have other : ¬Port.portD = .portP := by decide
    have run := State.takeRequest_answers listens carries rfl (ownResetPort_eq s .portD)
    unfold State.resetArb State.abortOwn at run
    dsimp only at run
    rw [stays, if_pos own] at run
    rw [State.abortMove_jump_silent jump moving returns active, decide_eq_false other, Bool.false_and,
      if_neg Bool.false_ne_true,
      Arb.Lone.arbComplete (m := m) ?_, State.startSettling_eq ?_, State.removeUrgent_quiet ?_, State.dropClaim_eq,
      if_neg other, State.resetPif_eq, alone.arbitrate (claim := .none) ?_] at run
    · refine ⟨_, congrArg Host.Outcome.next run, ?_, rfl, rfl, rfl, rfl, rfl, rfl⟩
      rw [State.sledStop_eq]
      rfl
    · rfl
    · exact inLine
    · exact lens
    · exact alone
  · have answered := ownResetPort_eq s p
    cases p
    case portP =>
      rw [State.resetArb_portP foreign, State.resetPif_eq, State.arbitrate_busy ?_] at answered
      · refine ⟨_, congrArg Host.Outcome.next (State.takeRequest_answers listens carries rfl answered), rfl, rfl, rfl, rfl,
          rfl, rfl, rfl, rfl, fun _ => ⟨rfl, rfl, ?_⟩, nofun⟩
        exact fun own => (s.arb.claim.without_own .portP).1 ⟨rfl, own⟩
      · exact busy
    case portD =>
      rw [State.resetArb_portD foreign, State.resetPif_eq, State.arbitrate_busy ?_] at answered
      · refine ⟨_, congrArg Host.Outcome.next (State.takeRequest_answers listens carries rfl answered), rfl, rfl, rfl, rfl,
          rfl, rfl, rfl, rfl, nofun, fun _ => ⟨rfl, rfl, ?_, fun waits => if_pos waits⟩⟩
        exact fun own => (s.arb.claim.without_own .portD).2 ⟨rfl, own⟩
      · exact busy

end Sys2Proof.Machine
end

section
/-!
PROOFS. A choice leaves nothing to grant (R142): a grant whose move ends within it takes an entry out of the Arbiter.
-/

namespace Sys2Proof.Machine

variable {s t u : State} {n : Nat}

/-! ### The Arbiter but for its mark -/

/-- Two states whose Arbiters differ in the mark at most. -/
def State.SameEntries (s t : State) : Prop := t.arb = { s.arb with mark := t.arb.mark }

theorem State.SameEntries.of_eq (same : t.arb = s.arb) : s.SameEntries t := by
  unfold State.SameEntries
  rw [same]

theorem State.SameEntries.trans (first : s.SameEntries t) (second : t.SameEntries u) : s.SameEntries u := by
  unfold State.SameEntries at first second ⊢
  rw [second, first]

theorem State.SameEntries.setDrive (same : s.SameEntries t) (d : DriveState) : s.SameEntries (t.setDrive d) :=
  same.trans (State.setDrive_arb t d)

theorem State.SameEntries.entriesHeld (same : s.SameEntries t) : t.entriesHeld = s.entriesHeld := by
  unfold State.SameEntries at same
  unfold State.entriesHeld
  rw [same]

/-! ### The entry of the active move -/

/-- The source names an entry that the Arbiter holds (R147). -/
def Arb.Sourced (v : Arb) : Prop :=
  v.source = .queueP ∧ v.queueP ≠ [] ∨ v.source = .queueD ∧ v.queueD ≠ [] ∨ v.source = .urgent ∧ v.urgent ≠ none

theorem State.SameEntries.sourced (same : s.SameEntries t) (sourced : s.arb.Sourced) : t.arb.Sourced := by
  unfold State.SameEntries at same
  rw [same]
  exact sourced

/-- A move is active, its entry one of the n that the Arbiter holds. -/
structure State.Granted (s : State) (n : Nat) : Prop where
  active : s.mve.active ≠ none
  sourced : s.arb.Sourced
  held : s.entriesHeld = n

/-- The move of a grant still runs, or its entry has left the n that the Arbiter held. -/
def State.Spent (s : State) (n : Nat) : Prop := s.mve.active ≠ none ∨ s.entriesHeld < n

theorem State.Granted.spent (granted : s.Granted n) : s.Spent n := .inl granted.active

theorem State.Granted.congr (granted : s.Granted n) (active : t.mve.active = s.mve.active) (same : s.SameEntries t) :
    t.Granted n where
  active := by rw [active]; exact granted.active
  sourced := same.sourced granted.sourced
  held := same.entriesHeld.trans granted.held

/-- A granted move to which orders were given that touch neither the move nor its entry. -/
theorem State.Granted.ordered (granted : s.Granted n) (active : t.mve.active = s.mve.active) (arb : t.arb = s.arb) :
    t.Granted n :=
  granted.congr active (.of_eq arb)

/-- A move that ends at the Arbiter takes its entry with it (R148). -/
theorem State.arbComplete_held (sourced : s.arb.Sourced) (o : Option MoveOutcome) (chain : Bool) :
    (s.arbComplete o chain).entriesHeld < s.entriesHeld := by
  have shrunk : ∀ p q, (s.shrinkQueue p q).arb = (s.setQueue p q).arb := by
    intro p q
    unfold State.shrinkQueue
    dsimp only
    split <;> simp
  unfold State.arbComplete State.entriesHeld
  rcases sourced with ⟨source, entries⟩ | ⟨source, entries⟩ | ⟨source, entries⟩
  · have := List.length_pos_iff.mpr entries
    simp only [source, shrunk, State.setQueue, List.length_tail]
    omega
  · have := List.length_pos_iff.mpr entries
    simp only [source, shrunk, State.setQueue, List.length_tail]
    omega
  · obtain ⟨e, urgent⟩ := Option.ne_none_iff_exists'.mp entries
    simp only [source, urgent, Option.toList_none, Option.toList_some, List.length_nil, List.length_singleton]
    omega

theorem State.finishMove_held {m : ActiveMove} (sourced : s.arb.Sourced) (o : MoveOutcome) (v : Option Nat) :
    (s.finishMove (some m) o v).entriesHeld < s.entriesHeld := by
  have stored : s.SameEntries (s.storeResult (s.resultOf m o v)) := .of_eq (by simp)
  rw [← stored.entriesHeld]
  exact State.arbComplete_held (stored.sourced sourced) _ _

/-- A granted move that is ended, whatever the other blocks were ordered to. -/
theorem State.Granted.finish (granted : s.Granted n) (same : s.SameEntries t) (o : MoveOutcome) (v : Option Nat) :
    (t.finishMove s.mve.active o v).Spent n := by
  obtain ⟨m, active⟩ := Option.ne_none_iff_exists'.mp granted.active
  refine .inr ?_
  rw [active, ← granted.held, ← same.entriesHeld]
  exact State.finishMove_held (same.sourced granted.sourced) o v

/-! ### Ends of a move -/

theorem State.Granted.completeAtGrant (granted : s.Granted n) (o : MoveOutcome) : (s.completeAtGrant o).Spent n :=
  granted.finish (t := s.endMove) (.of_eq rfl) o none

theorem State.Granted.completeMove (granted : s.Granted n) (o : MoveOutcome) (v : Option Nat) :
    (s.completeMove o v).Spent n := by
  have ended : s.SameEntries s.endMove := .of_eq rfl
  unfold State.completeMove
  obtain ⟨m, active⟩ := Option.ne_none_iff_exists'.mp granted.active
  rw [active]
  dsimp only
  rw [← active]
  split
  · exact granted.finish (ended.setDrive _) o v
  · exact granted.finish ended o v

theorem State.faultStop_entries (s : State) :
    s.SameEntries (s.focusOpen.laserOff.sledStop.brakeOrder.endWork.noRecovery.setDrive .faulted) :=
  State.SameEntries.setDrive (.of_eq (by simp)) _

theorem State.Granted.fault (granted : s.Granted n) (k : FaultKind) : (s.fault k).Spent n := by
  have latched : (s.latchFault k).Granted n := granted.ordered (by simp) (by simp)
  unfold State.fault
  dsimp only
  split
  · exact latched.spent
  · exact latched.finish (State.faultStop_entries _) _ _

/-- A fault with no move active takes no entry away. -/
theorem State.SameEntries.fault (same : s.SameEntries t) (free : t.mve.active = none) (k : FaultKind) :
    s.SameEntries (t.fault k) := by
  have latched : s.SameEntries (t.latchFault k) := same.trans (.of_eq (by simp))
  unfold State.fault State.faultStop
  dsimp only
  split
  · exact latched
  · rw [show (t.latchFault k).mve.active = none by simpa using free]
    exact latched.trans (State.faultStop_entries _)

theorem State.SameEntries.recoveryClose (same : s.SameEntries t) (free : t.mve.active = none) :
    s.SameEntries t.recoveryClose := by
  unfold State.recoveryClose
  dsimp only
  split
  · exact same.trans (.of_eq (by simp))
  · unfold State.recoveryFailed
    refine State.SameEntries.fault ?_ ?_ _
    · exact same.trans (.of_eq rfl)
    · exact free

theorem State.SameEntries.recoverySearch (same : s.SameEntries t) (free : t.mve.active = none) :
    s.SameEntries t.recoverySearch := by
  unfold State.recoverySearch
  dsimp only
  split
  · exact same.trans (.of_eq (by simp))
  · unfold State.recoveryFailed
    refine State.SameEntries.fault ?_ ?_ _
    · exact same.trans (.of_eq rfl)
    · exact free

theorem State.Granted.startRecovery (granted : s.Granted n) (onFocus : Bool) : (s.startRecovery onFocus).Spent n := by
  have base : s.SameEntries (s.endWork.sledStop.setDrive .recovering) := State.SameEntries.setDrive (.of_eq (by simp)) _
  have ended : (s.endWork.sledStop.setDrive .recovering).mve.active = none := by simp [Mve.endMove]
  unfold State.startRecovery
  dsimp only
  refine granted.finish ?_ _ _
  split
  · exact State.SameEntries.recoverySearch (base.trans (.of_eq rfl)) ended
  · exact State.SameEntries.recoveryClose (base.trans (.of_eq rfl)) ended

theorem State.Granted.trackingLost (granted : s.Granted n) : s.trackingLost.Spent n := by
  unfold State.trackingLost
  split
  · exact granted.startRecovery _
  · exact granted.spent

/-! ### The phases that a grant can reach -/

theorem State.Granted.failClosePhase (granted : s.Granted n) : s.failClosePhase.Spent n := by
  unfold State.failClosePhase
  split
  · exact granted.spent
  · split
    · exact granted.fault _
    · exact granted.trackingLost

theorem State.Granted.startClosePhase (granted : s.Granted n) : s.startClosePhase.Spent n := by
  unfold State.startClosePhase
  dsimp only
  split
  · exact (granted.ordered (by simp) (by simp)).spent
  · exact State.Granted.failClosePhase (granted.ordered rfl rfl)

theorem State.Granted.startJumpPhase (granted : s.Granted n) (k : Nat) (d : Dir) : (s.startJumpPhase k d).Spent n := by
  unfold State.startJumpPhase
  dsimp only
  split
  · exact (granted.ordered (by simp) (by simp)).spent
  · exact State.Granted.failClosePhase (granted.ordered rfl rfl)

theorem State.Granted.moveBy (granted : s.Granted n) (d : Int) : (s.moveBy d).Spent n := by
  unfold State.moveBy
  split
  · exact granted.startJumpPhase _ _
  · exact (granted.ordered (by simp [State.startCoarse]) (by simp [State.startCoarse])).spent

theorem State.Granted.startSeek (granted : s.Granted n) (b : Nat) : (s.startSeek b).Spent n := by
  have aimed : (s.aimAt b).Granted n := granted.ordered rfl rfl
  unfold State.startSeek State.seekMove
  dsimp only
  split
  · exact aimed.startClosePhase
  · exact aimed.moveBy _

theorem State.Granted.startSearch (granted : s.Granted n) : s.startSearch.Spent n := by
  unfold State.startSearch
  dsimp only
  split
  · exact (granted.ordered (by simp) (by simp)).spent
  · refine State.Granted.fault ?_ _
    exact granted.ordered rfl rfl

theorem State.Granted.onSledHomed (granted : s.Granted n) : s.onSledHomed.Spent n := by
  unfold State.onSledHomed
  split
  · split
    · exact granted.startSearch
    · exact granted.completeMove _ _
    · exact granted.spent
  · exact granted.spent

theorem State.Granted.startHoming (granted : s.Granted n) : s.startHoming.Spent n := by
  have homing :
      (({ s with mve := { s.mve with phase := .homing, settling := false } } : State).homingOrder).Granted n :=
    granted.ordered (by simp) (by simp)
  unfold State.startHoming
  dsimp only
  split
  · exact homing.onSledHomed
  · exact homing.spent

theorem State.Granted.onSpindleStopped (granted : s.Granted n) : s.onSpindleStopped.Spent n := by
  unfold State.onSpindleStopped
  split
  · split
    · exact granted.completeMove _ _
    · exact granted.startHoming
    · exact granted.spent
  · exact granted.spent

theorem State.Granted.startSpinDown (granted : s.Granted n) : s.startSpinDown.Spent n := by
  unfold State.startSpinDown
  dsimp only
  split
  · exact State.Granted.onSpindleStopped (granted.ordered (by simp) (by simp))
  · exact (granted.ordered (by simp) (by simp)).spent

theorem State.Granted.firstPhase (granted : s.Granted n) (m : ActiveMove) (marked : Option Nat) :
    (s.firstPhase m marked).Spent n := by
  have lit : s.laserOn.Granted n := granted.ordered (by simp) (by simp)
  unfold State.firstPhase
  split
  · split
    · exact lit.startSearch
    · exact lit.startHoming
  · exact granted.startSpinDown
  · exact granted.startSpinDown
  · exact granted.spent
  · exact .inl granted.active
  · split
    · exact granted.completeMove _ _
    · exact granted.moveBy _
  · split
    · exact granted.completeMove _ _
    · exact granted.moveBy _
  · exact granted.startSeek _
  · exact granted.startSeek _
  · exact (granted.ordered (by simp) (by simp)).spent

/-! ### The grant and the choice -/

theorem State.beginMove_spends (sourced : s.arb.Sourced) (m : ActiveMove) (marked : Option Nat) :
    (s.beginMove m marked).Spent s.entriesHeld := by
  have granted : ∀ v : Mve, v.active = some m → ({ s with mve := v } : State).Granted s.entriesHeld :=
    fun v active => ⟨by rw [active]; exact Option.some_ne_none m, sourced, rfl⟩
  unfold State.beginMove
  dsimp only
  split
  · exact State.Granted.completeAtGrant (granted _ rfl) _
  · exact State.Granted.completeMove (granted _ rfl) _ _
  · refine State.Granted.firstPhase (State.Granted.congr (s := { s with mve := s.mve.granted m }) (granted _ rfl) ?_ ?_) _ _
    · simp [Mve.granted]
    · exact State.SameEntries.setDrive (.of_eq rfl) _

/-- The Arbiter after the actions of a grant (R147). -/
theorem State.grantActions_arb (s : State) (c : Candidate) :
    (s.grantActions c).arb =
      { s.arb with
        source := c.source, urgentWaiting := if c.source = .urgent then false else s.arb.urgentWaiting, claim := .none
        run := c.run, mark := (s.grantActions c).arb.mark } := by
  unfold State.grantActions
  dsimp only
  split <;> split <;> simp

theorem State.queueOf_of_eligible {p : Port} {e : Entry} (eligible : s.eligibleHead p = some e) : s.queueOf p ≠ [] := by
  intro empty
  unfold State.eligibleHead at eligible
  rw [empty, List.head?_nil, ite_self] at eligible
  cases eligible

/-- A candidate is the waiting urgent entry, or the eligible head of the queue that its source names (R144). -/
theorem State.candidate_cases {c : Candidate} (names : s.candidate = some c) :
    (c.source = .urgent ∧ s.arb.urgent = some c.entry) ∨
      (c.source = .queueP ∧ s.eligibleHead .portP = some c.entry) ∨
        (c.source = .queueD ∧ s.eligibleHead .portD = some c.entry) := by
  unfold State.candidate at names
  split at names
  case h_1 e _ urgent =>
    cases names
    exact .inl ⟨rfl, urgent⟩
  case h_2 =>
    split at names
    case h_1 d claimed =>
      cases names
      unfold State.continuation at claimed
      split at claimed
      case isFalse => cases claimed
      case isTrue =>
        split at claimed
        · cases claimed
        · split at claimed
          · cases claimed
          · obtain ⟨e, head, rfl⟩ := Option.map_eq_some_iff.mp claimed
            exact .inr (.inl ⟨rfl, head⟩)
        · obtain ⟨e, head, rfl⟩ := Option.map_eq_some_iff.mp claimed
          exact .inr (.inr ⟨rfl, head⟩)
    case h_2 =>
      unfold State.byPolicy at names
      split at names
      case h_1 headP headD =>
        split at names
        · cases names
          exact .inr (.inl ⟨rfl, headP⟩)
        · cases names
          exact .inr (.inr ⟨rfl, headD⟩)
      case h_2 headP _ =>
        cases names
        exact .inr (.inl ⟨rfl, headP⟩)
      case h_3 _ headD =>
        cases names
        exact .inr (.inr ⟨rfl, headD⟩)
      case h_4 => cases names

/-- The source of a candidate names an entry that the Arbiter holds (R144). -/
theorem State.candidate_sourced {c : Candidate} (names : s.candidate = some c) :
    ({ s.arb with source := c.source } : Arb).Sourced := by
  rcases State.candidate_cases names with ⟨source, urgent⟩ | ⟨source, head⟩ | ⟨source, head⟩
  · exact .inr (.inr ⟨source, by rw [urgent]; exact Option.some_ne_none _⟩)
  · exact .inl ⟨source, State.queueOf_of_eligible head⟩
  · exact .inr (.inl ⟨source, State.queueOf_of_eligible head⟩)

theorem State.grant_spends {c : Candidate} (names : s.candidate = some c) : (s.grant c).Spent s.entriesHeld := by
  have held : (s.grantActions c).entriesHeld = s.entriesHeld := by
    unfold State.entriesHeld
    rw [State.grantActions_arb]
  unfold State.grant
  rw [← held]
  refine State.beginMove_spends ?_ _ _
  rw [State.grantActions_arb]
  exact State.candidate_sourced names

/-- Choices in number enough for the entries held leave nothing to grant. -/
theorem State.choose_still (n : Nat) (enough : s.entriesHeld ≤ n) : (State.choose n s).Still := by
  induction n generalizing s with
  | zero => exact .inr (State.entriesHeld_eq_zero.mp (Nat.le_zero.mp enough)).candidate
  | succ n ih =>
    unfold State.choose
    split
    case h_1 t once =>
      obtain ⟨-, c, names, rfl⟩ := State.chooseOnce_some.mp once
      rcases State.grant_spends names with busy | fewer
      · have used : (s.grant c).pickupFree = false := by
          obtain ⟨m, active⟩ := Option.ne_none_iff_exists'.mp busy
          exact State.pickupFree_active active
        rw [State.choose_busy n used]
        exact .inl used
      · exact ih (by omega)
    case h_2 none =>
      cases free : s.pickupFree with
      | false => exact .inl free
      | true =>
        refine .inr (Option.eq_none_iff_forall_ne_some.mpr fun c names => ?_)
        rw [State.chooseOnce_some.mpr ⟨free, c, names, rfl⟩] at none
        cases none

/-- Settles O43: each choice but the last takes an entry away. -/
theorem choiceLeavesNothingToGrant : Obligations.ChoiceLeavesNothingToGrant :=
  fun _ => State.choose_still _ le_rfl

end Sys2Proof.Machine
end

section
/-!
PROOFS. What no event of the block touches, and what becomes of the crossing detector meanwhile: the orders and reports that
all events are made of (chapters 1 to 9).
-/

namespace Sys2Proof.Machine

variable {s t u : State}

/-! ### The relation -/

/-- A port's settings, which its own requests write (R174, R178, R181). -/
def Pif.settings (v : Pif) : StoreMode × BitVec 12 × CounterBank := (v.mode, v.mask, v.baselines)

/-- What holds between the states before and after any part of an event: the queue of commands, both ports' settings and the
detector's values stand, and the armed side is NONE unless the tracking state stands as well (R15, R174, R178, R181). -/
structure State.Evolves (s t : State) : Prop where
  pending : t.pending = s.pending
  settingsP : t.pifP.settings = s.pifP.settings
  settingsD : t.pifD.settings = s.pifD.settings
  values : t.dfe = { s.dfe with armed := t.dfe.armed }
  armed : (t.dfe.armed = s.dfe.armed ∧ t.track.state = s.track.state) ∨ t.dfe.armed = .none

/-- Two states that agree in all that `State.Evolves` speaks of. -/
def State.Alike (s t : State) : Prop :=
  t.pending = s.pending ∧ t.pifP = s.pifP ∧ t.pifD = s.pifD ∧ t.dfe = s.dfe ∧ t.track.state = s.track.state

theorem State.Evolves.refl (s : State) : s.Evolves s := ⟨rfl, rfl, rfl, rfl, .inl ⟨rfl, rfl⟩⟩

theorem State.Evolves.trans (first : s.Evolves t) (second : t.Evolves u) : s.Evolves u where
  pending := second.pending.trans first.pending
  settingsP := second.settingsP.trans first.settingsP
  settingsD := second.settingsD.trans first.settingsD
  values := by
    rw [second.values, first.values]
  armed := by
    rcases second.armed with ⟨side, state⟩ | none
    · rw [side, state]
      exact first.armed
    · exact .inr none

/-- An operation on other blocks. -/
theorem State.Evolves.alike (h : s.Evolves t) (same : t.Alike u) : s.Evolves u := by
  obtain ⟨pending, pifP, pifD, dfe, track⟩ := same
  exact h.trans ⟨pending, by rw [pifP], by rw [pifD], by rw [dfe], .inl ⟨by rw [dfe], track⟩⟩

/-- A record update of other blocks. -/
theorem State.Evolves.update (h : s.Evolves t) (pending : u.pending = t.pending) (pifP : u.pifP = t.pifP)
    (pifD : u.pifD = t.pifD) (dfe : u.dfe = t.dfe) (track : u.track.state = t.track.state) : s.Evolves u :=
  h.alike ⟨pending, pifP, pifD, dfe, track⟩

/-- A port's interface replaced by one with the same settings. -/
theorem State.Evolves.setPif (h : s.Evolves t) {p : Port} {v : Pif} (same : v.settings = (t.pif p).settings) :
    s.Evolves (t.setPif p v) := by
  refine h.trans ?_
  cases p
  case portP => exact ⟨rfl, same, rfl, rfl, .inl ⟨rfl, rfl⟩⟩
  case portD => exact ⟨rfl, rfl, same, rfl, .inl ⟨rfl, rfl⟩⟩

/-! ### Notices, counters and results -/

theorem State.Evolves.raise (h : s.Evolves t) (p : Port) (n : Notice) : s.Evolves (t.raise p n) := h.setPif rfl

theorem State.Evolves.raiseBoth (h : s.Evolves t) (n : Notice) : s.Evolves (t.raiseBoth n) :=
  h.trans ⟨rfl, rfl, rfl, rfl, .inl ⟨rfl, rfl⟩⟩

theorem State.Evolves.bump (h : s.Evolves t) (c : CounterId) : s.Evolves (t.bump c) := by
  rw [State.bump_eq]
  exact h.trans ⟨rfl, rfl, rfl, rfl, .inl ⟨rfl, rfl⟩⟩

theorem State.Evolves.storeResult (h : s.Evolves t) (r : Result) : s.Evolves (t.storeResult r) := by
  unfold State.storeResult
  dsimp only
  refine State.Evolves.raise (h.setPif ?_) _ _
  split <;> rfl

theorem State.Evolves.shrinkQueue (h : s.Evolves t) (p : Port) (q : List Entry) : s.Evolves (t.shrinkQueue p q) := by
  have shrunk : s.Evolves (t.setQueue p q) := h.alike (by simp [State.Alike])
  unfold State.shrinkQueue
  dsimp only
  split
  · exact shrunk.raise _ _
  · exact shrunk

theorem State.Evolves.arbComplete (h : s.Evolves t) (o : Option MoveOutcome) (chain : Bool) :
    s.Evolves (t.arbComplete o chain) := by
  unfold State.arbComplete
  dsimp only
  split
  · exact (h.shrinkQueue _ _).update rfl rfl rfl rfl rfl
  · exact (h.shrinkQueue _ _).update rfl rfl rfl rfl rfl
  · exact h.update rfl rfl rfl rfl rfl
  · exact h.update rfl rfl rfl rfl rfl

theorem State.Evolves.finishMove (h : s.Evolves t) (m : Option ActiveMove) (o : MoveOutcome) (v : Option Nat) :
    s.Evolves (t.finishMove m o v) := by
  unfold State.finishMove
  split
  · exact h
  · exact (h.storeResult _).arbComplete _ _

/-! ### The record, the mark and the drive state -/

theorem State.Evolves.moveIndex (h : s.Evolves t) (d : Int) : s.Evolves (t.moveIndex d) := h.alike (by simp [State.Alike])

theorem State.Evolves.setIndex (h : s.Evolves t) (n : Int) : s.Evolves (t.setIndex n) := h.alike (by simp [State.Alike])

theorem State.Evolves.dropAnchor (h : s.Evolves t) : s.Evolves t.dropAnchor := h.alike (by simp [State.Alike])

theorem State.Evolves.clearMark (h : s.Evolves t) (tell : Bool) : s.Evolves (t.clearMark tell) := by
  have cleared : s.Evolves { t with arb := { t.arb with mark := none } } := h.update rfl rfl rfl rfl rfl
  unfold State.clearMark
  dsimp only
  split
  · exact h
  · split
    · exact cleared.raise _ _
    · exact cleared

theorem State.Evolves.setDrive (h : s.Evolves t) (d : DriveState) : s.Evolves (t.setDrive d) := by
  have settled : ∀ {v : State}, s.Evolves v → s.Evolves (v.settle d) := by
    intro v hv
    unfold State.settle
    split
    · exact hv
    · exact hv.dropAnchor.clearMark _
  have left : ∀ {v : State}, s.Evolves v → s.Evolves (v.leaveDrive t.dsv.drive) := by
    intro v hv
    unfold State.leaveDrive
    split
    · exact hv.update rfl rfl rfl rfl rfl
    · exact hv
  unfold State.setDrive
  split
  · exact h
  · refine left (settled (State.Evolves.raiseBoth ?_ _))
    exact h.update rfl rfl rfl rfl rfl

/-! ### Loops -/

/-- A change of the tracking state makes the armed side NONE (R15). -/
theorem State.Evolves.setTrack (h : s.Evolves t) (r : TrackLoop) : s.Evolves (t.setTrack r) := by
  refine h.trans ⟨rfl, rfl, rfl, ?_, ?_⟩
  · unfold State.setTrack
    dsimp only
    split <;> rfl
  · by_cases same : r.state = t.track.state
    · refine .inl ⟨?_, same⟩
      show (if _ then t.dfe else { t.dfe with armed := .none }).armed = _
      rw [if_pos same]
    · refine .inr ?_
      show (if _ then t.dfe else { t.dfe with armed := .none }).armed = _
      rw [if_neg same]

theorem State.Evolves.trackOpen (h : s.Evolves t) : s.Evolves t.trackOpen := h.setTrack _

theorem State.Evolves.focusOpen (h : s.Evolves t) : s.Evolves t.focusOpen := by
  unfold State.focusOpen
  exact h.trackOpen.update rfl rfl rfl rfl rfl

theorem State.Evolves.searchCommand (h : s.Evolves t) : s.Evolves t.searchCommand := by
  unfold State.searchCommand
  split
  · exact h.trackOpen.update rfl rfl rfl rfl rfl
  · exact h

theorem State.Evolves.closeCommand (h : s.Evolves t) : s.Evolves t.closeCommand := by
  unfold State.closeCommand
  split
  · exact h.setTrack _
  · exact h

theorem State.Evolves.jumpCommand (h : s.Evolves t) (d : Dir) : s.Evolves (t.jumpCommand d) := by
  unfold State.jumpCommand
  split
  · exact h.setTrack _
  · exact h

theorem State.Evolves.brakeCommand (h : s.Evolves t) : s.Evolves t.brakeCommand := by
  unfold State.brakeCommand
  split
  · exact h.update rfl rfl rfl rfl rfl
  · exact h

theorem State.Evolves.holdLoops (h : s.Evolves t) : s.Evolves t.holdLoops := by
  have focus : s.Evolves t.holdFocus := h.alike (by simp [State.Alike])
  unfold State.holdLoops State.holdTrack
  split
  · exact focus.setTrack _
  · exact focus

theorem State.Evolves.releaseLoops (h : s.Evolves t) : s.Evolves t.releaseLoops := by
  have focus : s.Evolves t.releaseFocus := h.alike (by simp [State.Alike])
  unfold State.releaseLoops State.releaseTrack
  split
  · exact focus.setTrack _
  · exact focus

theorem State.Evolves.setGains (h : s.Evolves t) (g : GainSet) : s.Evolves (t.setGains g) := h.update rfl rfl rfl rfl rfl

/-! ### Faults and recovery -/

theorem State.Evolves.latchFault (h : s.Evolves t) (k : FaultKind) : s.Evolves (t.latchFault k) := by
  unfold State.latchFault
  dsimp only
  split
  · exact h.update rfl rfl rfl rfl rfl
  · refine State.Evolves.raiseBoth ?_ _
    exact h.update rfl rfl rfl rfl rfl

theorem State.Evolves.sledStop (h : s.Evolves t) : s.Evolves t.sledStop := h.alike (by simp [State.Alike])

theorem State.Evolves.endWork (h : s.Evolves t) : s.Evolves t.endWork := h.update rfl rfl rfl rfl rfl

theorem State.Evolves.endMove (h : s.Evolves t) : s.Evolves t.endMove := h.update rfl rfl rfl rfl rfl

theorem State.Evolves.laserOff (h : s.Evolves t) : s.Evolves t.laserOff := h.update rfl rfl rfl rfl rfl

theorem State.Evolves.noRecovery (h : s.Evolves t) : s.Evolves t.noRecovery := h.update rfl rfl rfl rfl rfl

theorem State.Evolves.brakeOrder (h : s.Evolves t) : s.Evolves t.brakeOrder := h.alike (by simp [State.Alike])

theorem State.Evolves.fault (h : s.Evolves t) (k : FaultKind) : s.Evolves (t.fault k) := by
  unfold State.fault State.faultStop
  dsimp only
  split
  · exact h.latchFault _
  · exact ((h.latchFault _).focusOpen.laserOff.sledStop.brakeOrder.endWork.noRecovery.setDrive _).finishMove _ _ _

theorem State.Evolves.recoveryFailed (h : s.Evolves t) (k : FaultKind) : s.Evolves (t.recoveryFailed k) := by
  unfold State.recoveryFailed
  refine State.Evolves.fault (State.Evolves.noRecovery ?_) _
  exact h.update rfl rfl rfl rfl rfl

theorem State.Evolves.recoveryClose (h : s.Evolves t) : s.Evolves t.recoveryClose := by
  unfold State.recoveryClose
  dsimp only
  split
  · refine State.Evolves.closeCommand ?_
    exact h.update rfl rfl rfl rfl rfl
  · refine State.Evolves.recoveryFailed ?_ _
    exact h.update rfl rfl rfl rfl rfl

theorem State.Evolves.recoverySearch (h : s.Evolves t) : s.Evolves t.recoverySearch := by
  unfold State.recoverySearch
  dsimp only
  split
  · refine State.Evolves.searchCommand ?_
    exact h.update rfl rfl rfl rfl rfl
  · refine State.Evolves.recoveryFailed ?_ _
    exact h.update rfl rfl rfl rfl rfl

theorem State.Evolves.startRecovery (h : s.Evolves t) (onFocus : Bool) : s.Evolves (t.startRecovery onFocus) := by
  have base : s.Evolves (t.endWork.sledStop.setDrive .recovering) := h.endWork.sledStop.setDrive _
  unfold State.startRecovery
  dsimp only
  refine State.Evolves.finishMove ?_ _ _ _
  split
  · refine State.Evolves.recoverySearch ?_
    exact base.update rfl rfl rfl rfl rfl
  · refine State.Evolves.recoveryClose ?_
    exact base.update rfl rfl rfl rfl rfl

theorem State.Evolves.trackingLost (h : s.Evolves t) : s.Evolves t.trackingLost := by
  unfold State.trackingLost
  split
  · exact h.startRecovery _
  · exact h

theorem State.Evolves.focusLost (h : s.Evolves t) : s.Evolves t.focusLost := by
  unfold State.focusLost
  dsimp only
  split
  · exact h.startRecovery _
  · split
    · refine State.Evolves.recoverySearch ?_
      exact h.update rfl rfl rfl rfl rfl
    · exact h

theorem State.Evolves.recovered (h : s.Evolves t) : s.Evolves t.recovered := by
  unfold State.recovered
  refine State.Evolves.setDrive (State.Evolves.noRecovery ?_) _
  exact h.update rfl rfl rfl rfl rfl

end Sys2Proof.Machine
end

section
/-!
PROOFS. The moves, the grant and the Pickup Arbiter by `State.Evolves` (chapters 6 and 7).
-/

namespace Sys2Proof.Machine

variable {s t u : State}

/-! ### Phases -/

theorem State.Evolves.completeMove (h : s.Evolves t) (o : MoveOutcome) (v : Option Nat) :
    s.Evolves (t.completeMove o v) := by
  unfold State.completeMove
  dsimp only
  split
  · exact h
  · refine State.Evolves.finishMove ?_ _ _ _
    split
    · exact h.endMove.setDrive _
    · exact h.endMove

theorem State.Evolves.completeAtGrant (h : s.Evolves t) (o : MoveOutcome) : s.Evolves (t.completeAtGrant o) :=
  h.endMove.finishMove _ _ _

theorem State.Evolves.failClosePhase (h : s.Evolves t) : s.Evolves t.failClosePhase := by
  unfold State.failClosePhase
  split
  · exact h
  · split
    · exact h.fault _
    · exact h.trackingLost

theorem State.Evolves.startClosePhase (h : s.Evolves t) : s.Evolves t.startClosePhase := by
  unfold State.startClosePhase
  dsimp only
  split
  · refine State.Evolves.closeCommand ?_
    exact h.update rfl rfl rfl rfl rfl
  · refine State.Evolves.failClosePhase ?_
    exact h.update rfl rfl rfl rfl rfl

theorem State.Evolves.startJumpPhase (h : s.Evolves t) (n : Nat) (d : Dir) : s.Evolves (t.startJumpPhase n d) := by
  unfold State.startJumpPhase
  dsimp only
  split
  · refine State.Evolves.jumpCommand ?_ _
    exact h.update rfl rfl rfl rfl rfl
  · refine State.Evolves.failClosePhase ?_
    exact h.update rfl rfl rfl rfl rfl

theorem State.Evolves.moveBy (h : s.Evolves t) (d : Int) : s.Evolves (t.moveBy d) := by
  unfold State.moveBy
  split
  · exact h.startJumpPhase _ _
  · unfold State.startCoarse
    have opened : ∀ v : Mve, s.Evolves ({ t with mve := v } : State).trackOpen := fun v =>
      State.Evolves.trackOpen (h.update rfl rfl rfl rfl rfl)
    exact (opened _).update rfl rfl rfl rfl rfl

theorem State.Evolves.seekMove (h : s.Evolves t) (d : Int) : s.Evolves (t.seekMove d) := by
  unfold State.seekMove
  split
  · exact h.startClosePhase
  · exact h.moveBy _

theorem State.Evolves.aimAt (h : s.Evolves t) (b : Nat) : s.Evolves (t.aimAt b) := h.update rfl rfl rfl rfl rfl

theorem State.Evolves.startSeek (h : s.Evolves t) (b : Nat) : s.Evolves (t.startSeek b) := (h.aimAt b).seekMove _

theorem State.Evolves.startAddressWait (h : s.Evolves t) : s.Evolves t.startAddressWait := h.update rfl rfl rfl rfl rfl

theorem State.Evolves.correctWith (h : s.Evolves t) (miss : MoveOutcome) {go : State → State}
    (goes : ∀ u, s.Evolves u → s.Evolves (go u)) : s.Evolves (t.correctWith miss go) := by
  unfold State.correctWith
  dsimp only
  split
  · refine State.Evolves.completeMove (State.Evolves.bump ?_ _) _ _
    exact h.update rfl rfl rfl rfl rfl
  · split
    · refine goes _ (State.Evolves.aimAt (State.Evolves.bump ?_ _) _)
      exact h.update rfl rfl rfl rfl rfl
    · refine State.Evolves.completeMove ?_ _ _
      exact h.update rfl rfl rfl rfl rfl

theorem State.Evolves.correctOnExpiry (h : s.Evolves t) : s.Evolves t.correctOnExpiry := by
  refine h.correctWith _ fun u hu => ?_
  dsimp only
  split
  · exact hu.startAddressWait
  · exact hu.moveBy _

theorem State.Evolves.seekReport (h : s.Evolves t) (good : Bool) (r : Nat) : s.Evolves (t.seekReport good r) := by
  unfold State.seekReport
  split
  · split
    · exact h.completeMove _ _
    · exact h.correctWith _ fun u hu => hu.seekMove _
  · exact h

/-! ### START, STOP and PARK -/

theorem State.Evolves.startSearch (h : s.Evolves t) : s.Evolves t.startSearch := by
  unfold State.startSearch
  dsimp only
  split
  · refine State.Evolves.searchCommand ?_
    exact h.update rfl rfl rfl rfl rfl
  · refine State.Evolves.fault ?_ _
    exact h.update rfl rfl rfl rfl rfl

theorem State.Evolves.onSledHomed (h : s.Evolves t) : s.Evolves t.onSledHomed := by
  unfold State.onSledHomed
  split
  · split
    · exact h.startSearch
    · exact h.completeMove _ _
    · exact h
  · exact h

theorem State.Evolves.startHoming (h : s.Evolves t) : s.Evolves t.startHoming := by
  have homing : s.Evolves ({ t with mve := { t.mve with phase := .homing, settling := false } } : State).homingOrder :=
    h.alike (by simp [State.Alike])
  unfold State.startHoming
  dsimp only
  split
  · exact homing.onSledHomed
  · exact homing

theorem State.Evolves.onSledStuck (h : s.Evolves t) : s.Evolves t.onSledStuck := by
  unfold State.onSledStuck
  split
  · exact h.fault _
  · exact h

theorem State.Evolves.onSpindleLocked (h : s.Evolves t) : s.Evolves t.onSpindleLocked := by
  unfold State.onSpindleLocked
  split
  · exact h.startClosePhase
  · exact h

theorem State.Evolves.startSpinUp (h : s.Evolves t) : s.Evolves t.startSpinUp := by
  have up : s.Evolves { t with mve := { t.mve with phase := .spinUp } } := h.update rfl rfl rfl rfl rfl
  unfold State.startSpinUp
  dsimp only
  split
  · split
    · exact up.onSpindleLocked
    · exact up.alike (by simp [State.Alike])
  · exact up.fault _

theorem State.Evolves.onSpindleStopped (h : s.Evolves t) : s.Evolves t.onSpindleStopped := by
  unfold State.onSpindleStopped
  split
  · split
    · exact h.completeMove _ _
    · exact h.startHoming
    · exact h
  · exact h

theorem State.Evolves.startSpinDown (h : s.Evolves t) : s.Evolves t.startSpinDown := by
  have ordered := h.focusOpen.laserOff.sledStop.brakeOrder
  unfold State.startSpinDown
  dsimp only
  split
  · refine State.Evolves.onSpindleStopped ?_
    exact ordered.update rfl rfl rfl rfl rfl
  · exact ordered.update rfl rfl rfl rfl rfl

/-! ### Reports -/

theorem State.Evolves.onPulledIn (h : s.Evolves t) : s.Evolves t.onPulledIn := by
  unfold State.onPulledIn
  split
  · exact h.startSpinUp
  · split
    · exact h.recoveryClose
    · exact h

theorem State.Evolves.onSearchFailed (h : s.Evolves t) : s.Evolves t.onSearchFailed := by
  unfold State.onSearchFailed
  split
  · exact h.fault _
  · split
    · exact h.recoveryFailed _
    · exact h

theorem State.Evolves.closePhaseDone (h : s.Evolves t) : s.Evolves t.closePhaseDone := by
  unfold State.closePhaseDone
  split
  · exact h
  · split
    · exact h.completeMove _ _
    · exact h.completeMove _ _
    · exact h.completeMove _ _
    · exact h.completeMove _ _
    · exact h.startAddressWait
    · exact h.startAddressWait
    · split
      · refine State.Evolves.completeMove ?_ _ _
        exact h.update rfl rfl rfl rfl rfl
      · exact h.completeMove _ _
    · exact h
    · exact h
    · exact h

theorem State.Evolves.onTrackingClosed (h : s.Evolves t) : s.Evolves t.onTrackingClosed := by
  unfold State.onTrackingClosed
  split
  · exact h.update rfl rfl rfl rfl rfl
  · split
    · exact h.closePhaseDone
    · split
      · exact h.update rfl rfl rfl rfl rfl
      · split
        · exact h.recovered
        · exact h

theorem State.Evolves.failHoldJump (h : s.Evolves t) : s.Evolves t.failHoldJump := by
  unfold State.failHoldJump
  refine State.Evolves.trackingLost ?_
  exact h.update rfl rfl rfl rfl rfl

theorem State.Evolves.failSettling (h : s.Evolves t) : s.Evolves t.failSettling := by
  unfold State.failSettling
  refine State.Evolves.trackingLost ?_
  exact h.update rfl rfl rfl rfl rfl

theorem State.Evolves.onCloseFailed (h : s.Evolves t) : s.Evolves t.onCloseFailed := by
  have again : ∀ v : Mve, s.Evolves ({ t with mve := v } : State).closeCommand := fun v =>
    State.Evolves.closeCommand (h.update rfl rfl rfl rfl rfl)
  unfold State.onCloseFailed
  split
  · split
    · exact again _
    · exact h.failSettling
  · split
    · split
      · exact again _
      · exact h.failClosePhase
    · split
      · split
        · exact again _
        · exact h.failHoldJump
      · split
        · split
          · exact again _
          · exact h.recoveryFailed _
        · exact h

/-! ### The standing hold, crossings and revolutions -/

theorem State.Evolves.startHoldJump (h : s.Evolves t) : s.Evolves t.startHoldJump := by
  unfold State.startHoldJump
  dsimp only
  split
  · refine State.Evolves.jumpCommand ?_ _
    exact h.update rfl rfl rfl rfl rfl
  · refine State.Evolves.failHoldJump ?_
    exact h.update rfl rfl rfl rfl rfl

theorem State.Evolves.closeHoldJump (h : s.Evolves t) : s.Evolves t.closeHoldJump := by
  unfold State.closeHoldJump
  dsimp only
  split
  · refine State.Evolves.closeCommand ?_
    exact h.update rfl rfl rfl rfl rfl
  · refine State.Evolves.failHoldJump ?_
    exact h.update rfl rfl rfl rfl rfl

theorem State.Evolves.mveCrossing (h : s.Evolves t) : s.Evolves t.mveCrossing := by
  have counted : ∀ v : Mve, s.Evolves { t with mve := v } := fun v => h.update rfl rfl rfl rfl rfl
  unfold State.mveCrossing
  dsimp only
  split
  · split
    · exact (counted _).startClosePhase
    · split
      · exact (counted _).brakeCommand
      · exact counted _
  · split
    · exact (counted _).sledStop.startJumpPhase _ _
    · exact counted _
  · split
    · exact h.closeHoldJump
    · exact h

theorem State.Evolves.mveRevolution (h : s.Evolves t) : s.Evolves t.mveRevolution := by
  have counted : ∀ v : Mve, s.Evolves { t with mve := v } := fun v => h.update rfl rfl rfl rfl rfl
  unfold State.mveRevolution
  split
  · split
    · split
      · exact h.startJumpPhase _ _
      · exact h
    · exact counted _
  · unfold State.measureRevolution
    dsimp only
    split
    · exact (counted _).startClosePhase
    · exact counted _
  · exact h
  · split
    · exact h.startHoldJump
    · exact h

theorem State.Evolves.balanceSample (h : s.Evolves t) : s.Evolves t.balanceSample := by
  unfold State.balanceSample
  split
  · exact h.update rfl rfl rfl rfl rfl
  · exact h

/-! ### The grant and the choice -/

theorem State.Evolves.firstPhase (h : s.Evolves t) (m : ActiveMove) (marked : Option Nat) :
    s.Evolves (t.firstPhase m marked) := by
  have lit : s.Evolves t.laserOn := h.alike (by simp [State.Alike])
  unfold State.firstPhase
  split
  · split
    · exact lit.startSearch
    · exact lit.startHoming
  · exact h.startSpinDown
  · exact h.startSpinDown
  · exact h
  · exact h.update rfl rfl rfl rfl rfl
  · split
    · exact h.completeMove _ _
    · exact h.moveBy _
  · split
    · exact h.completeMove _ _
    · exact h.moveBy _
  · exact h.startSeek _
  · exact h.startSeek _
  · refine State.Evolves.trackOpen ?_
    exact h.update rfl rfl rfl rfl rfl

theorem State.Evolves.beginMove (h : s.Evolves t) (m : ActiveMove) (marked : Option Nat) :
    s.Evolves (t.beginMove m marked) := by
  have taken : ∀ v : Mve, s.Evolves { t with mve := v } := fun v => h.update rfl rfl rfl rfl rfl
  unfold State.beginMove
  dsimp only
  split
  · exact (taken _).completeAtGrant _
  · exact (taken _).completeMove _ _
  · exact ((taken _).setDrive _).firstPhase _ _

theorem State.Evolves.grantActions (h : s.Evolves t) (c : Candidate) : s.Evolves (t.grantActions c) := by
  have sourced : ∀ v : Arb, s.Evolves { t with arb := v } := fun v => h.update rfl rfl rfl rfl rfl
  have dropped : ∀ v : Arb, s.Evolves
      (if c.entry.kind.dropsAnchor then ({ t with arb := v } : State).dropAnchor else { t with arb := v }) := by
    intro v
    split
    · exact (sourced v).dropAnchor
    · exact sourced v
  unfold State.grantActions
  dsimp only
  split
  · exact (dropped _).clearMark _
  · exact dropped _

theorem State.Evolves.choose (h : s.Evolves t) (n : Nat) : s.Evolves (State.choose n t) := by
  induction n generalizing t with
  | zero => exact h
  | succ n ih =>
    unfold State.choose
    split
    case h_1 u once =>
      obtain ⟨-, c, -, rfl⟩ := State.chooseOnce_some.mp once
      exact ih ((h.grantActions c).beginMove _ _)
    case h_2 => exact h

theorem State.Evolves.arbitrate (h : s.Evolves t) : s.Evolves t.arbitrate := h.choose _

/-! ### Aborts -/

theorem State.Evolves.startSettling (h : s.Evolves t) : s.Evolves t.startSettling := by
  unfold State.startSettling
  split
  · refine State.Evolves.closeCommand ?_
    exact h.update rfl rfl rfl rfl rfl
  · exact h.trackingLost

theorem State.Evolves.abortMove (h : s.Evolves t) (o : Option MoveOutcome) (stopNext : Bool) :
    s.Evolves (t.abortMove o stopNext) := by
  have stopped := h.endMove.sledStop
  have settles : ∀ (b : Bool) (v : State), s.Evolves v → s.Evolves (if b then v else v.startSettling) := by
    intro b v hv
    split
    · exact hv
    · exact hv.startSettling
  have returned : ∀ m : ActiveMove, s.Evolves
      (if m.kind.stopsDrive then t.endMove.sledStop.focusOpen.laserOff.brakeOrder.setDrive .idle
      else t.endMove.sledStop.setDrive (t.mve.returnState.getD .tracking)) := by
    intro m
    split
    · exact stopped.focusOpen.laserOff.brakeOrder.setDrive _
    · exact stopped.setDrive _
  unfold State.abortMove
  dsimp only
  split
  · exact h
  · refine settles _ _ ?_
    split
    · exact (returned _).finishMove _ _ _
    · exact (returned _).arbComplete _ _

theorem State.Evolves.dropClaim (h : s.Evolves t) (p : Port) : s.Evolves (t.dropClaim p) := by
  unfold State.dropClaim
  split
  · exact h.update rfl rfl rfl rfl rfl
  · exact h

end Sys2Proof.Machine
end

section
/-!
PROOFS. The servo sample by `State.Evolves` (chapters 1 to 3), with the values that its first stage holds.
-/

namespace Sys2Proof.Machine

variable {s t u : State}

/-! ### The three stages -/

theorem State.Evolves.slip (h : s.Evolves t) : s.Evolves t.slip := by
  have slipped := ((h.bump .slip).raiseBoth .slip).dropAnchor.clearMark true
  unfold State.slip
  dsimp only
  split
  · refine State.Evolves.trackingLost (State.Evolves.bump ?_ _)
    exact slipped.update rfl rfl rfl rfl rfl
  · exact slipped.update rfl rfl rfl rfl rfl

theorem State.Evolves.crossing (h : s.Evolves t) (d : Dir) (carried : TrackState) : s.Evolves (t.crossing d carried) := by
  have counted := (h.moveIndex d.step).mveCrossing
  unfold State.crossing
  dsimp only
  split
  · exact counted.slip.arbitrate
  · exact counted.arbitrate

/-- All before the LPR stage, from the detector's values on (R1). -/
theorem State.frontStage_evolves (s : State) (x : SampleInputs) : (s.dfeStage x).Evolves (s.frontStage x) := by
  unfold State.frontStage
  dsimp only
  refine State.Evolves.balanceSample ?_
  split
  · exact (State.Evolves.refl _).crossing _ _
  · exact .refl _

theorem State.Evolves.loopStage (h : s.Evolves t) : s.Evolves t.loopStage := by
  have focus : s.Evolves t.focusStage := by
    have computed : ∀ f : FocusLoop, s.Evolves { t with focus := f } := fun f => h.update rfl rfl rfl rfl rfl
    unfold State.focusStage
    dsimp only
    split
    · exact h
    · exact h
    · exact computed _
    · split
      · exact computed _
      · split
        · exact (computed _).focusOpen
        · exact computed _
  unfold State.loopStage State.trackStage
  split
  · exact focus
  · exact focus
  · exact focus.update rfl rfl rfl rfl rfl
  · split
    · exact focus.setTrack _
    · exact focus
  · exact focus.update rfl rfl rfl rfl rfl

theorem State.Evolves.followSample (h : s.Evolves t) (found : TrackState) : s.Evolves (t.followSample found) := by
  have followed : ∀ c : Slc, s.Evolves { t with slc := c } := fun c => h.update rfl rfl rfl rfl rfl
  unfold State.followSample
  split
  · exact followed _
  · exact followed _
  · exact followed _
  · split
    · exact followed _
    · exact h
  · exact followed _
  · exact h

theorem State.Evolves.takeReport (h : s.Evolves t) (r : LprReport) : s.Evolves (t.takeReport r) := by
  cases r with
  | none => exact h
  | pulledIn => exact h.onPulledIn
  | searchFailed => exact h.onSearchFailed
  | trackingClosed => exact h.onTrackingClosed

theorem State.Evolves.lprStage (h : s.Evolves t) : s.Evolves t.lprStage :=
  ((h.loopStage.followSample _).takeReport _).arbitrate

theorem State.Evolves.judgeDefect (h : s.Evolves t) (f : FocusState) : s.Evolves (t.judgeDefect f) := by
  have judged : ∀ v : Dmn, s.Evolves { t with dmn := v } := fun v => h.update rfl rfl rfl rfl rfl
  unfold State.judgeDefect
  split
  · split
    · exact ((judged _).bump _).holdLoops
    · exact judged _
  · split
    · exact (judged _).releaseLoops
    · split
      · exact ((judged _).releaseLoops.bump _).raiseBoth _
      · split
        · exact judged _
        · exact judged _
  · split
    · exact h
    · exact judged _

theorem State.Evolves.judgeFocusLoss (h : s.Evolves t) (f : FocusState) : s.Evolves (t.judgeFocusLoss f) := by
  have judged : ∀ v : Dmn, s.Evolves { t with dmn := v } := fun v => h.update rfl rfl rfl rfl rfl
  unfold State.judgeFocusLoss
  split
  · exact (((judged _).bump _).raiseBoth _).focusLost.arbitrate
  · exact judged _

theorem State.Evolves.judgeShock (h : s.Evolves t) : s.Evolves t.judgeShock := by
  have judged : ∀ v : Dmn, s.Evolves { t with dmn := v } := fun v => h.update rfl rfl rfl rfl rfl
  unfold State.judgeShock
  split
  · split
    · exact judged _
    · exact (((judged _).setGains _).bump _).raiseBoth _
  · split
    · exact (judged _).setGains _
    · exact h

theorem State.Evolves.judgeOverload (h : s.Evolves t) (saturated : Bool) : s.Evolves (t.judgeOverload saturated) := by
  have judged : ∀ v : Dmn, s.Evolves { t with dmn := v } := fun v => h.update rfl rfl rfl rfl rfl
  unfold State.judgeOverload
  dsimp only
  split
  · split
    · exact ((judged _).fault _).arbitrate
    · exact judged _
  · exact judged _

/-- A servo sample event from its detector's values on (R1). -/
theorem State.sampleEvent_evolves (s : State) (x : SampleInputs) : (s.dfeStage x).Evolves (s.sampleEvent x) :=
  ((((s.frontStage_evolves x).lprStage.judgeDefect _).judgeFocusLoss _).judgeShock).judgeOverload _

/-! ### The values held -/

theorem convertU_eq (x : Int) : convertU x = (max 0 (min x 4095)).toNat :=
  congrArg Int.toNat (clampI_eq_max_min (by decide) x)

theorem convertA_eq (x : Int) : convertA x = max (-512) (min x 511) := clampI_eq_max_min (by decide) x

theorem roundAway_scaled (x : Int) (d : Nat) :
    roundAway (x * 4096) d = x.sign * (((2 * (x.natAbs * 4096) + d) / (2 * d) : Nat) : Int) := by
  unfold roundAway
  rw [Int.sign_mul, Int.natAbs_mul, show Int.sign 4096 = 1 from rfl, mul_one]
  rfl

theorem normalized_eq (x : Int) (total floor : Nat) :
    normalized x total floor =
      if floor ≤ total ∧ 0 < total then x.sign * (((2 * (x.natAbs * 4096) + total) / (2 * total) : Nat) : Int) else 0 := by
  unfold normalized
  rw [roundAway_scaled]

theorem judgeCrossing_armed (armed : ArmedSide) (te : Int) (level : Nat) :
    (judgeCrossing armed te level).1 = if level ≤ te then .high else if te ≤ -level then .low else armed := by
  unfold judgeCrossing
  split
  · rfl
  · split <;> rfl

theorem judgeCrossing_event (armed : ArmedSide) (te : Int) (level : Nat) :
    (judgeCrossing armed te level).2 =
      if level ≤ te then (if armed = .low then some .inward else none)
      else if te ≤ -level ∧ armed = .high then some .outward else none := by
  unfold judgeCrossing
  split
  · rfl
  · split
    case isTrue low => simp [low]
    case isFalse high => simp [high]

theorem focusError_eq (m : Params) (a b c d : Nat) :
    focusError m a b c d =
      max (-4096)
        (min
          ((if m.sumFloor ≤ a + b + c + d ∧ 0 < a + b + c + d then
              (((a + c : Nat) : Int) - ((b + d : Nat) : Int)).sign *
                (((2 * ((((a + c : Nat) : Int) - ((b + d : Nat) : Int)).natAbs * 4096) + (a + b + c + d)) /
                    (2 * (a + b + c + d)) : Nat) : Int)
            else 0) + m.fofs)
          4095) := by
  unfold focusError
  rw [clampI_eq_max_min (by decide), normalized_eq]

theorem trackError_eq (m : Params) (e f : Nat) :
    trackError m e f =
      max (-4096)
        (min
          ((if m.sideFloor ≤ e + balancedF m f ∧ 0 < e + balancedF m f then
              ((e : Int) - (balancedF m f : Int)).sign *
                (((2 * (((e : Int) - (balancedF m f : Int)).natAbs * 4096) + (e + balancedF m f)) /
                    (2 * (e + balancedF m f)) : Nat) : Int)
            else 0) + m.tofs)
          4095) := by
  unfold trackError
  rw [clampI_eq_max_min (by decide), normalized_eq]

/-- Settles O11: the values of the first stage, and what the rest of the sample leaves of them. -/
theorem sampleConvertsAndDerives : Obligations.SampleConvertsAndDerives := by
  intro x s high
  dsimp only
  simp only [← convertU_eq, ← convertA_eq]
  have held := s.sampleEvent_evolves x
  have te := trackError_eq s.prm (convertU x.e - s.prm.ofsE) (convertU x.f - s.prm.ofsF)
  unfold balancedF at te
  rw [← te, ← focusError_eq]
  have armed := judgeCrossing_armed s.dfe.armed (s.dfe.sample s.prm x).te s.prm.xingLevel
  refine ⟨armed, judgeCrossing_event _ _ _, _, congrArg Host.Outcome.next (if_neg ?_), held.values, ?_⟩
  · rw [high]
    exact Bool.false_ne_true
  · exact held.armed.imp_left fun ⟨side, state⟩ => ⟨side.trans armed, state⟩

end Sys2Proof.Machine
end

section
/-!
PROOFS. Every command by `State.Evolves`: it completes, keeps the queue of commands, and leaves a port's settings to that
port's own requests and to reset.
-/

namespace Sys2Proof.Machine

variable {s t u : State} {p : Port}

/-! ### The events -/

/-- The queue of commands and both ports' settings stand. -/
structure State.Keeps (s t : State) : Prop where
  pending : t.pending = s.pending
  settings : ∀ p, (t.pif p).settings = (s.pif p).settings

theorem State.Evolves.keeps (h : s.Evolves t) : s.Keeps t where
  pending := h.pending
  settings p := by
    cases p
    case portP => exact h.settingsP
    case portD => exact h.settingsD

theorem State.sampleEvent_keeps (s : State) (x : SampleInputs) : s.Keeps (s.sampleEvent x) :=
  ⟨(s.sampleEvent_evolves x).keeps.pending, (s.sampleEvent_evolves x).keeps.settings⟩

/-- A guarded event keeps what the event keeps. -/
theorem State.Keeps.guarded {c : Prop} [Decidable c] (h : s.Keeps t) : s.Keeps (if c then t else s) := by
  split
  · exact h
  · exact (State.Evolves.refl s).keeps

theorem State.Evolves.when {effect : State → State} (h : s.Evolves (effect s)) (due : Bool) :
    s.Evolves (s.when due effect) := by
  unfold State.when
  split
  · exact h
  · exact .refl s

theorem State.Evolves.closeFails (h : s.Evolves t) : s.Evolves t.closeFails := (h.setTrack _).onCloseFailed.arbitrate

theorem State.Evolves.spinFails (h : s.Evolves t) : s.Evolves t.spinFails := by
  unfold State.spinFails
  refine State.Evolves.arbitrate (State.Evolves.fault ?_ _)
  exact h.update rfl rfl rfl rfl rfl

theorem State.Evolves.spindleStops (h : s.Evolves t) : s.Evolves t.spindleStops := by
  unfold State.spindleStops
  refine State.Evolves.arbitrate (State.Evolves.onSpindleStopped ?_)
  exact h.update rfl rfl rfl rfl rfl

theorem State.Evolves.sledSticks (h : s.Evolves t) : s.Evolves t.sledSticks := by
  unfold State.sledSticks
  refine State.Evolves.arbitrate (State.Evolves.onSledStuck ?_)
  exact h.update rfl rfl rfl rfl rfl

theorem State.Evolves.jumpTimesOut (h : s.Evolves t) : s.Evolves t.jumpTimesOut := by
  unfold State.jumpTimesOut
  refine State.Evolves.arbitrate (State.Evolves.startClosePhase ?_)
  exact h.update rfl rfl rfl rfl rfl

theorem State.Evolves.holdTimesOut (h : s.Evolves t) : s.Evolves t.holdTimesOut := by
  unfold State.holdTimesOut
  refine State.Evolves.arbitrate (State.Evolves.closeHoldJump ?_)
  exact h.update rfl rfl rfl rfl rfl

theorem State.Evolves.seekTimesOut (h : s.Evolves t) : s.Evolves t.seekTimesOut := by
  unfold State.seekTimesOut
  refine State.Evolves.arbitrate (State.Evolves.startClosePhase (State.Evolves.sledStop ?_))
  exact h.update rfl rfl rfl rfl rfl

theorem State.Evolves.waitExpires (h : s.Evolves t) : s.Evolves t.waitExpires := by
  unfold State.waitExpires
  refine State.Evolves.arbitrate (State.Evolves.correctOnExpiry ?_)
  exact h.update rfl rfl rfl rfl rfl

theorem State.Evolves.gapTimesOut (h : s.Evolves t) : s.Evolves t.gapTimesOut := by
  unfold State.gapTimesOut
  refine State.Evolves.arbitrate (State.Evolves.startClosePhase ?_)
  exact h.update rfl rfl rfl rfl rfl

theorem State.Evolves.revolution (h : s.Evolves t) : s.Evolves t.revolution := by
  have advanced : s.Evolves t.pruRevolution := by
    have moved : s.Evolves (if t.spirals then t.moveIndex 1 else t) := by
      split
      · exact h.moveIndex _
      · exact h
    have aged : ∀ v : State, s.Evolves v → s.Evolves
        (if v.pru.anchor.isSome then { v with pru := { v.pru with revs := satN Config.max16 (v.pru.revs + 1) } }
        else v) := by
      intro v hv
      split
      · exact hv.update rfl rfl rfl rfl rfl
      · exact hv
    exact aged _ moved
  have followed : ∀ {v : State}, s.Evolves v → s.Evolves v.slcRevolution := by
    intro v hv
    unfold State.slcRevolution
    dsimp only
    split
    · split
      · exact hv.update rfl rfl rfl rfl rfl
      · exact hv.update rfl rfl rfl rfl rfl
    · exact hv
  unfold State.revolution
  refine State.Evolves.mveRevolution (followed ?_)
  exact advanced.update rfl rfl rfl rfl rfl

theorem State.Evolves.hallEdge (h : s.Evolves t) (us : Nat) : s.Evolves (t.judgeEdge us).countEdge.arbitrate := by
  have turned : ∀ c : Spc, s.Evolves { t with spc := c } := fun c => h.update rfl rfl rfl rfl rfl
  have judged : s.Evolves (t.judgeEdge us) := by
    unfold State.judgeEdge State.reportEdge
    dsimp only
    split
    · exact (turned _).onSpindleLocked
    · exact ((turned _).bump _).raiseBoth _
    · exact turned _
  refine State.Evolves.arbitrate ?_
  unfold State.countEdge
  split
  · refine State.Evolves.revolution ?_
    exact judged.update rfl rfl rfl rfl rfl
  · exact judged.update rfl rfl rfl rfl rfl

theorem State.Evolves.homeReached (h : s.Evolves t) : s.Evolves t.homeReached := by
  unfold State.homeReached
  split
  · exact State.Evolves.onSledHomed (h.alike (by simp [State.Alike]))
  · exact h.update rfl rfl rfl rfl rfl

theorem State.Evolves.lowvEvent (h : s.Evolves t) : s.Evolves t.lowvEvent := by
  have withdrawn : s.Evolves ({ t with dsv := { t.dsv with lowv := true } } : State).withdrawPermit :=
    h.alike (by simp [State.Alike])
  exact ((withdrawn.focusOpen.laserOff.sledStop.endWork.noRecovery.dropAnchor.clearMark true).setDrive
    _).finishMove _ _ _ |>.arbitrate

theorem State.Evolves.releaseEvent (h : s.Evolves t) : s.Evolves t.releaseEvent := by
  have granted : s.Evolves ({ t with dsv := { t.dsv with lowv := false } } : State).grantPermit :=
    h.alike (by simp [State.Alike])
  exact (granted.setDrive _).arbitrate

/-- A reset keeps the queue of commands alone (R193). -/
theorem State.outOfReset_pending (s : State) : s.outOfReset.pending = s.pending := by
  have event : s.outOfReset.pending = (s.afterReset false).pending := by
    unfold State.outOfReset
    dsimp only
    split
    · exact (State.Evolves.refl _).lowvEvent.pending
    · rfl
  exact event.trans rfl

theorem State.selectChange_settings (s : State) (p : Port) (asserted : Bool) :
    s.Keeps
      (s.setPif p
        (if asserted then { s.pif p with phase := (s.pif p).phase.asserted s.rstnLow } else (s.pif p).deselected)) := by
  refine (State.Evolves.setPif (.refl s) ?_).keeps
  split <;> rfl

/-- Every command that is no request: the queue stands, and but for a reset both ports' settings do. -/
theorem exec_event (i : Instr) (event : frameOf i = none) (s : State) :
    ∃ t, exec i s = .next t ∧ t.pending = s.pending ∧
      (i ≠ .rstnAsserted → i ≠ .rstnReleased → i ≠ .powerOn → s.Keeps t) := by
  have completes : ∀ {t : State}, exec i s = .next t → s.Keeps t →
      ∃ t, exec i s = .next t ∧ t.pending = s.pending ∧
        (i ≠ .rstnAsserted → i ≠ .rstnReleased → i ≠ .powerOn → s.Keeps t) :=
    fun run keeps => ⟨_, run, keeps.pending, fun _ _ _ => keeps⟩
  have same := State.Evolves.refl s
  cases i with
  | servoSampleEvent x =>
    refine completes rfl ?_
    split
    · exact same.keeps
    · exact s.sampleEvent_keeps x
  | searchFailed x => exact completes rfl (s.sampleEvent_keeps x).guarded
  | defectForcedEnd x => exact completes rfl (s.sampleEvent_keeps x).guarded
  | hallEdge us =>
    refine completes rfl ?_
    split
    · exact same.keeps
    · exact (same.hallEdge us).keeps
  | closeTimeout => exact completes rfl (same.closeFails.when _).keeps
  | closePhaseRetry => exact completes rfl (same.closeFails.when _).keeps
  | spinTimeout => exact completes rfl (same.spinFails.when _).keeps
  | spindleStopped => exact completes rfl (same.spindleStops.when _).keeps
  | sledStuck => exact completes rfl (same.sledSticks.when _).keeps
  | nudgeEnd =>
    refine completes rfl (State.Evolves.when ?_ _).keeps
    exact same.update rfl rfl rfl rfl rfl
  | jumpTimeout => exact completes rfl (same.jumpTimesOut.when _).keeps
  | holdingJumpTimeout => exact completes rfl (same.holdTimesOut.when _).keeps
  | seekTimeout => exact completes rfl (same.seekTimesOut.when _).keeps
  | addressWaitExpiry => exact completes rfl (same.waitExpires.when _).keeps
  | revolutionGapTimeout => exact completes rfl (same.gapTimesOut.when _).keeps
  | shockTimeCountdown =>
    refine completes rfl (State.Evolves.when ?_ _).keeps
    exact same.update rfl rfl rfl rfl rfl
  | elapsedTimeTick =>
    refine completes rfl (State.Evolves.when ?_ _).keeps
    exact same.update rfl rfl rfl rfl rfl
  | millisecondTick =>
    refine completes rfl (State.Evolves.when ?_ _).keeps
    exact same.update rfl rfl rfl rfl rfl
  | homeSwitchChange active =>
    have level : s.Evolves { s with homePin := active } := same.update rfl rfl rfl rfl rfl
    refine completes rfl (State.Evolves.keeps ?_)
    split
    · exact level.homeReached.arbitrate
    · exact level
  | lowvAssertion =>
    have level : s.Evolves { s with lowvPin := true } := same.update rfl rfl rfl rfl rfl
    refine completes rfl (State.Evolves.keeps ?_)
    split
    · exact level.lowvEvent
    · exact level
  | lowvRelease =>
    have level : s.Evolves { s with lowvPin := false } := same.update rfl rfl rfl rfl rfl
    refine completes rfl (State.Evolves.keeps ?_)
    split
    · exact level.releaseEvent
    · exact level
  | rstnAsserted => exact ⟨_, rfl, rfl, fun reset => absurd rfl reset⟩
  | rstnReleased =>
    refine ⟨_, rfl, ?_, fun _ reset => absurd rfl reset⟩
    split
    · exact s.outOfReset_pending
    · rfl
  | powerOn =>
    refine ⟨_, rfl, ?_, fun _ _ reset => absurd rfl reset⟩
    split
    · rfl
    · exact s.outOfReset_pending
  | selectChange p asserted => exact completes rfl (s.selectChange_settings p asserted)
  | _ => cases event

/-! ### The requests -/

/-- What a request on a port spares: the queue of commands, and the other port's settings. -/
structure State.Spares (s t : State) (p : Port) : Prop where
  pending : t.pending = s.pending
  settings : (t.pif (otherPort p)).settings = (s.pif (otherPort p)).settings

theorem State.Evolves.spares (h : s.Evolves t) (p : Port) : s.Spares t p := ⟨h.keeps.pending, h.keeps.settings _⟩

theorem State.Spares.refl (s : State) (p : Port) : s.Spares s p := ⟨rfl, rfl⟩

theorem State.Spares.evolves (h : s.Spares t p) (on : t.Evolves u) : s.Spares u p :=
  ⟨on.pending.trans h.pending, (on.keeps.settings _).trans h.settings⟩

theorem State.Spares.setPif (h : s.Spares t p) (v : Pif) : s.Spares (t.setPif p v) p := by
  cases p
  case portP => exact ⟨h.pending, h.settings⟩
  case portD => exact ⟨h.pending, h.settings⟩

theorem State.takeRequest_spares {use : PortUse} {need : List Word → Option Nat} {owner : Owner} (f : Frame)
    (owns : ∀ ws, s.Spares (owner p ws s).1 p) : s.Spares (s.takeRequest use need owner p f) p := by
  unfold State.takeRequest
  split
  · unfold State.shiftOut
    split
    · exact .refl s p
    · exact (State.Spares.refl s p).setPif _
  · split
    · refine State.Spares.setPif ?_ _
      unfold State.judgeRequest
      split
      · exact .refl s p
      · split
        · exact .refl s p
        · split
          · exact .refl s p
          · exact owns _
    · exact (State.Spares.refl s p).setPif _

theorem State.Evolves.replaceQueue (h : s.Evolves t) (p : Port) (q : List Entry) : s.Evolves (t.setQueue p q) :=
  h.alike (by simp [State.Alike])

theorem State.Evolves.abortOwn (h : s.Evolves t) (p : Port) (o : Option MoveOutcome) (stopNext : Bool) :
    s.Evolves (t.abortOwn p o stopNext) := by
  unfold State.abortOwn
  split
  · exact h.abortMove _ _
  · exact h

theorem State.Evolves.acceptSubmission (h : s.Evolves t) (p : Port) (x : Submission) :
    s.Evolves (t.acceptSubmission p x) := by
  have joined : s.Evolves (t.enqueue p x) := by
    have numbered : ∀ n, s.Evolves (t.setPif p { t.pif p with ticket := n }) := fun n => h.setPif rfl
    unfold State.enqueue
    dsimp only
    split
    · exact (numbered _).update rfl rfl rfl rfl rfl
    · exact (numbered _).replaceQueue _ _
  unfold State.acceptSubmission State.preempt
  dsimp only
  refine State.Evolves.arbitrate ?_
  split
  · split
    · exact (joined.abortMove _ _).bump _
    · exact joined
  · exact joined

theorem State.Evolves.flushSteps (h : s.Evolves t) (p : Port) (abort : Bool) : s.Evolves (t.flushSteps p abort) := by
  have removed : s.Evolves (t.removeWaiting p) := h.replaceQueue _ _
  have flushed : s.Evolves
      (if abort then (t.removeWaiting p).abortOwn p (some .abortedFlush) (t.removeWaiting p).urgentStops
      else t.removeWaiting p) := by
    split
    · exact removed.abortOwn _ _ _
    · exact removed
  have told : ∀ v : State, s.Evolves v → s.Evolves
      (if (t.queueOf p).length = Config.queueDepth ∧ (v.queueOf p).length < Config.queueDepth then v.raise p .qspace
      else v) := by
    intro v hv
    split
    · exact hv.raise _ _
    · exact hv
  exact told _ (flushed.dropClaim p)

theorem State.Evolves.resetArb (h : s.Evolves t) (p : Port) : s.Evolves (t.resetArb p) := by
  have unhurried : ∀ {v : State}, s.Evolves v → s.Evolves (v.removeUrgent p) := by
    intro v hv
    unfold State.removeUrgent
    split
    · exact hv.update rfl rfl rfl rfl rfl
    · exact hv
  have removed : s.Evolves (t.removeWaiting p) := h.replaceQueue _ _
  have released := (unhurried (removed.abortOwn p none (p = .portP && (t.removeWaiting p).urgentStops))).dropClaim p
  unfold State.resetArb
  dsimp only
  split
  · exact released.clearMark _
  · exact released

theorem State.Evolves.writeParam (h : s.Evolves t) (q : ParamId) (v : Int) : s.Evolves (t.writeParam q v) := by
  have written : s.Evolves { t with prm := t.prm.set q v } := h.update rfl rfl rfl rfl rfl
  have retargeted : s.Evolves ({ t with prm := t.prm.set q v } : State).retarget := written.update rfl rfl rfl rfl rfl
  unfold State.writeParam
  dsimp only
  split
  · unfold State.relock
    split
    · exact retargeted.update rfl rfl rfl rfl rfl
    · exact retargeted
  · exact retargeted
  · exact written

theorem State.Evolves.handleReport (h : s.Evolves t) (good : Bool) (b : Nat) : s.Evolves (t.handleReport good b) := by
  have judged : s.Evolves (t.judgeReport good b) := by
    unfold State.judgeReport
    split
    · unfold State.acceptReport
      exact (h.setIndex _).update rfl rfl rfl rfl rfl
    · have counted := h.bump .anchorReject
      unfold State.rejectReport
      dsimp only
      split
      · split
        · refine State.Evolves.bump ?_ _
          exact counted.update rfl rfl rfl rfl rfl
        · exact counted.update rfl rfl rfl rfl rfl
      · exact counted
  unfold State.handleReport
  refine State.Evolves.arbitrate ?_
  split
  · exact judged.seekReport _ _
  · exact judged

theorem State.Evolves.replaceZones (h : s.Evolves t) (z : ZoneTable) : s.Evolves (t.replaceZones z) := by
  have replaced : s.Evolves { t with pru := { t.pru with zones := z } } := h.update rfl rfl rfl rfl rfl
  unfold State.replaceZones
  dsimp only
  split
  · exact replaced
  · split
    · exact replaced.alike (by simp [State.Alike])
    · exact replaced.dropAnchor

theorem State.Evolves.deckClamped (h : s.Evolves t) : s.Evolves t.deckClamped := by
  have granted : s.Evolves ({ t with dsv := { t.dsv with clamp := .clamped } } : State).grantPermit :=
    h.alike (by simp [State.Alike])
  unfold State.deckClamped
  dsimp only
  split
  · exact h
  · split
    · exact granted.setDrive _
    · exact granted

theorem State.Evolves.deckUnclamped (h : s.Evolves t) (c : Clamp) : s.Evolves (t.deckUnclamped c) := by
  have withdrawn : s.Evolves ({ t with dsv := { t.dsv with clamp := c } } : State).withdrawGranted :=
    h.alike (by simp [State.Alike])
  unfold State.deckUnclamped
  dsimp only
  split
  · exact withdrawn.dropAnchor.clearMark _
  · exact ((withdrawn.sledStop.endWork.setDrive _).finishMove _ _ _).arbitrate
  · exact (((withdrawn.latchFault _).focusOpen.laserOff.sledStop.endWork.noRecovery.setDrive _).finishMove
      _ _ _).arbitrate

theorem State.Evolves.clearRecord (h : s.Evolves t) : s.Evolves t.clearRecord := by
  have cleared : s.Evolves { t with dsv := { t.dsv with record := none, lost := false } } := h.update rfl rfl rfl rfl rfl
  unfold State.clearRecord
  dsimp only
  split
  · exact h
  · split
    · exact cleared.setDrive _
    · exact cleared

/-- Every request: it completes, and spares the queue of commands and the other port's settings. -/
theorem exec_spares {i : Instr} {c : Byte} {f : Frame} (request : frameOf i = some (p, c, f)) (s : State) :
    ∃ t, exec i s = .next t ∧ s.Spares t p := by
  have same := State.Evolves.refl s
  have still : s.Spares s p := .refl s p
  cases i with
  | submit q g =>
    cases request
    refine ⟨_, rfl, State.takeRequest_spares _ fun ws => ?_⟩
    unfold ownSubmit
    split
    · exact still
    · split
      · exact still
      · exact (same.acceptSubmission _ _).spares _
  | flush q g =>
    cases request
    exact ⟨_, rfl, State.takeRequest_spares _ fun ws => (same.flushSteps _ _).arbitrate.spares _⟩
  | resetPort q g =>
    cases request
    refine ⟨_, rfl, State.takeRequest_spares _ fun ws => ?_⟩
    exact (((same.resetArb _).spares _).setPif _).evolves (State.Evolves.refl _).arbitrate
  | getState q g =>
    cases request
    refine ⟨_, rfl, State.takeRequest_spares _ fun ws => ?_⟩
    unfold ownGetState
    split <;> exact still
  | getPosition q g => cases request; exact ⟨_, rfl, State.takeRequest_spares _ fun ws => still⟩
  | getFault q g => cases request; exact ⟨_, rfl, State.takeRequest_spares _ fun ws => still⟩
  | getZones q g => cases request; exact ⟨_, rfl, State.takeRequest_spares _ fun ws => still⟩
  | getParam q g =>
    cases request
    refine ⟨_, rfl, State.takeRequest_spares _ fun ws => ?_⟩
    unfold ownGetParam
    split <;> exact still
  | getResults q g =>
    cases request
    refine ⟨_, rfl, State.takeRequest_spares _ fun ws => ?_⟩
    unfold ownGetResults
    dsimp only
    split
    · exact (still.setPif _).evolves (State.Evolves.refl _).arbitrate
    · exact still.setPif _
  | getNotices q g => cases request; exact ⟨_, rfl, State.takeRequest_spares _ fun ws => still.setPif _⟩
  | setNoticeMask q g => cases request; exact ⟨_, rfl, State.takeRequest_spares _ fun ws => still.setPif _⟩
  | getCounters q g =>
    cases request
    refine ⟨_, rfl, State.takeRequest_spares _ fun ws => ?_⟩
    unfold ownGetCounters
    dsimp only
    split
    · exact still.setPif _
    · exact still
  | clearFault q g => cases request; exact ⟨_, rfl, State.takeRequest_spares _ fun ws => same.clearRecord.spares _⟩
  | setParam q g =>
    cases request
    refine ⟨_, rfl, State.takeRequest_spares _ fun ws => ?_⟩
    unfold ownSetParam
    dsimp only
    split
    · exact still
    · split
      · exact still
      · exact (same.writeParam _ _).spares _
  | setPortMode q g =>
    cases request
    refine ⟨_, rfl, State.takeRequest_spares _ fun ws => ?_⟩
    unfold ownSetPortMode
    dsimp only
    split
    · exact still
    · show s.Spares (if _ then (State.setPif _ _ _).arbitrate else State.setPif _ _ _) _
      split
      · exact (still.setPif _).evolves (State.Evolves.refl _).arbitrate
      · exact still.setPif _
  | addressReport q g =>
    cases request
    refine ⟨_, rfl, State.takeRequest_spares _ fun ws => ?_⟩
    unfold ownAddressReport
    split
    · exact still
    · exact (same.handleReport _ _).spares _
  | mark q g =>
    cases request
    refine ⟨_, rfl, State.takeRequest_spares _ fun ws => ?_⟩
    unfold ownMark
    split
    · exact still
    · exact ⟨rfl, rfl⟩
  | unmark q g => cases request; exact ⟨_, rfl, State.takeRequest_spares _ fun ws => (same.clearMark _).spares _⟩
  | zoneSet q g =>
    cases request
    refine ⟨_, rfl, State.takeRequest_spares _ fun ws => ?_⟩
    unfold ownZoneSet
    split
    · exact (same.replaceZones _).spares _
    · exact still
  | deckReport q g =>
    cases request
    have told := same.raise .portP .deck
    refine ⟨_, rfl, State.takeRequest_spares _ fun ws => ?_⟩
    unfold ownDeckReport
    split
    · exact still
    · exact told.deckClamped.spares _
    · exact (told.deckUnclamped _).spares _
  | setPolicy q g =>
    cases request
    refine ⟨_, rfl, State.takeRequest_spares _ fun ws => ?_⟩
    unfold ownSetPolicy
    split
    · exact still
    · refine (State.Evolves.arbitrate ?_).spares _
      exact same.update rfl rfl rfl rfl rfl
  | unknownCodeRequest q d g =>
    cases request
    refine ⟨_, rfl, ?_⟩
    split
    · exact still
    · exact State.takeRequest_spares _ fun ws => still
  | _ => cases request

/-- Settles O3: the events and the requests complete and keep the queue of commands. -/
theorem everyCommandCompletes : Obligations.EveryCommandCompletes := by
  intro i s
  cases request : frameOf i with
  | none =>
    obtain ⟨t, run, pending, -⟩ := exec_event i request s
    exact ⟨t, run, pending⟩
  | some row =>
    obtain ⟨t, run, spared⟩ := exec_spares request s
    exact ⟨t, run, spared.pending⟩

/-- Settles O7: an event keeps both ports' settings, and a request those of the other port. -/
theorem portSettingsOwned : Obligations.PortSettingsOwned := by
  intro p i s t foreign asserted released powered run
  have settled : (t.pif p).settings = (s.pif p).settings := by
    cases request : frameOf i with
    | none =>
      obtain ⟨u, ran, -, keeps⟩ := exec_event i request s
      cases ran.symm.trans run
      exact (keeps asserted released powered).settings p
    | some row =>
      obtain ⟨q, c, f⟩ := row
      obtain ⟨u, ran, spared⟩ := exec_spares request s
      cases ran.symm.trans run
      have other : p = otherPort q := by
        have unlike : p ≠ q := fun same => foreign c f (by rw [same]; exact request)
        cases p <;> cases q <;> first | rfl | exact absurd rfl unlike
      rw [other]
      exact spared.settings
  exact ⟨congrArg (·.1) settled, congrArg (·.2.1) settled, congrArg (·.2.2) settled⟩

end Sys2Proof.Machine
end
